-- ==== Sys2Proof/Word.lean ====
section
/-! DEFINITION. The bit-vector types of the block: a byte of the memory link, a 16-bit word of a lamp link frame, a
36-bit byte address (R165, R200). -/

namespace Sys2Proof

/-- One byte of the memory link. -/
abbrev Byte := BitVec 8

/-- One 16-bit word of a lamp link frame (R200). -/
abbrev FrameWord := BitVec 16

/-- A 36-bit byte address of the memory link (R165). -/
abbrev Addr := BitVec 36

end Sys2Proof
end

