-- ==== Sys2Proof/Syntax.lean ====
section
/-! DEFINITION. The commands of the block: one constructor per row of spec/opcode_table.json, with the row's
operands. -/

namespace Sys2Proof

/-- One byte lane of a WRITE: the byte and its enable (section 9.1). Withholding clears the enable and leaves the
data (R171). -/
structure Lane where
  enabled : Bool
  data    : Byte
deriving DecidableEq, Repr

/-- A host READ: byte address and length in words, as presented (section 9.1). -/
structure HostRead where
  addr  : Addr
  words : BitVec 8
deriving DecidableEq, Repr

/-- A host WRITE: byte address, length in words as presented, and one lane a byte (section 9.1). -/
structure HostWrite where
  addr  : Addr
  words : BitVec 8
  lanes : List Lane
deriving DecidableEq, Repr

/-- A transaction at the upstream port. -/
inductive HostTxn where
  | read  (r : HostRead)
  | write (w : HostWrite)
deriving DecidableEq, Repr

/-- Memory's answer to one entry: DONE or MEMFAULT, with the data of a READ (section 9.1). -/
structure MemAnswer where
  fault : Bool
  data  : List Byte
deriving DecidableEq, Repr

/-- The two lamp links. -/
inductive Link where
  | a
  | b
deriving DecidableEq, Repr

/-- One constructor per row of the table. A host transaction's row is a name for the place it falls in; the part
classifies by address (R170, log 1). -/
inductive Instr where
  | slotDirWrite (w : HostWrite)
  | slotDirRead (r : HostRead)
  | mailboxDirWrite (w : HostWrite)
  | mailboxDirRead (r : HostRead)
  | audioWrite (w : HostWrite)
  | greetingWrite (w : HostWrite)
  | aliasReadPositionZero (r : HostRead)
  | aliasRead (r : HostRead)
  | aliasWrite (w : HostWrite)
  | reportRegionWrite (w : HostWrite)
  | plainTransaction (t : HostTxn)
  | linkMisformed (t : HostTxn)
  | controlAreaWrite (w : HostWrite)
  | classEntryWrite (w : HostWrite)
  | calibrationWrite (w : HostWrite)
  | breakListWrite (w : HostWrite)
  | scheduleWrite (w : HostWrite)
  | broadcastEntryWrite (w : HostWrite)
  | shelfEntryWrite (w : HostWrite)
  | reportConsumerWrite (w : HostWrite)
  | errorLatchClear (w : HostWrite)
  /-- the strap level is that of the CTLSEL pins when the command arrives (R167, log 24) -/
  | restart (w : HostWrite) (straps : BitVec 4)
  | sweepNow (w : HostWrite)
  | clockSet (w : HostWrite)
  | broadcastPost (w : HostWrite)
  | broadcastWithdraw (w : HostWrite)
  | lampRefresh (w : HostWrite)
  | badCommand (w : HostWrite)
  | memoryAnswer (answer : MemAnswer)
  | depositIdleExpiry (context : Nat)
  | timeoutClaim
  | sweepVisit
  | reportWrite
  | loaderRoomGrant
  | calendarAdvance
  | latchIdleExpiry (latch : Nat)
  | cadenceTick
  | probeMomentReached (shelf : Nat)
  | frameEnd (link : Link)
  /-- the reply's bits in the order in which they arrived on the link (R200) -/
  | replyReceived (link : Link) (bits : List Bool)
  | replyTimeout (link : Link)
  | resetAsserted
  | resetReleased (straps : BitVec 4)
  | loadDone
  | procStopped
  | procRunning
  | replyFirstWord (link : Link)
  | controlAreaRead (r : HostRead)
  | prunChangeNotRunning (high : Bool)
deriving DecidableEq, Repr

end Sys2Proof
end

