-- ==== Sys2Proof/Decode.lean ====
section
/-! DEFINITION. The table gives no row any bits (every "fields" list of spec/opcode_table.json is empty and no row has
a "fixed" pattern), so no word spells a command: decoding is total and reads none from every word. -/

namespace Sys2Proof

/-- The command a table word spells: none, whatever the word, since no row of the table has bits. -/
def decodeTableWord (_nbits _w : Nat) : Option Instr := none

end Sys2Proof
end

