-- ==== Sys2Proof/Config.lean ====
section
/-! DEFINITION. What is fixed for the part (sizes and rates the spec states) and the free values: the values the spec
leaves open although the machine goes on (log 11 to 14). A free value has no body, so no proof can tell what it is. -/

namespace Sys2Proof.Config

/-- 4 GiB, the step between Control Area locations (R167). -/
def controlStep : Nat := 4294967296
/-- 64 KiB, the size of the Control Area and the unit of the Region Map (R167, R168). -/
def unitBytes : Nat := 65536
/-- 64 GiB, the end of the 36-bit address space (R168). -/
def spaceBytes : Nat := 68719476736
/-- Bytes of one audio block (00 Conventions). -/
def blockBytes : Nat := 4096
/-- The last block of the address space (R54, R105). -/
def lastBlock : Nat := 16777215
/-- Places of the Outbound Queue (R173). -/
def queuePlaces : Nat := 32
/-- Accepted host transactions whose responses are outstanding (R176). -/
def orderPlaces : Nat := 64
/-- The reports unread and unwritten together (R192). -/
def reportPlaces : Nat := 255
/-- Slots of the slot directory (R1). -/
def slots : Nat := 65536
/-- Mailboxes of the mailbox directory (R25). -/
def mailboxes : Nat := 8192
/-- CLK32 cycles in a second (R87). -/
def cyclesPerSecond : Nat := 32768
/-- CLK32 cycles between two cadence ticks (R148). -/
def cyclesPerTick : Nat := 8192
/-- Blocks of an alias lane (R115). -/
def laneBlocks : Nat := 128

/-- CLK32 cycles of a reply timeout given in microseconds: times 32,768 ÷ 1,000,000, rounded up (R150). -/
def timeoutCycles (us : Nat) : Nat := (32768 * us + 999999) / 1000000

/-- The fields whose bytes are 'meaningful when present', or whose default has bytes the spec does not judge: what
those bytes hold when nothing is present is stated nowhere (log 11, 13, 14). -/
inductive Unmeant where
  | expiryDay (slot : Nat)
  | nextInQueue (slot : Nat)
  | unheardHead (box : Nat)
  | keptHead (box : Nat)
  | latchSlot
  | latchDetail
  | reportSlot
  | reportTag
  | locatorBlock (box : Nat) (which : Nat)
  | absenceDay (box : Nat)
deriving DecidableEq, Repr

/-- FREE VALUE (log 11, 13, 14): the bytes of a field that holds nothing, in the entry of the Outbound Queue that has
the given number. -/
opaque unmeant : Unmeant → Nat → BitVec 64

/-- FREE VALUE (log 12): the two detail bytes of MAILBOX_NOT_EMPTY for a count that two bytes cannot hold. -/
opaque oversizeCount : Nat → BitVec 16

end Sys2Proof.Config
end

