-- ==== Sys2Proof/Machine/State.lean ====
section
/-! DEFINITION. The state of the part: every piece the spec names, block by block, as plain data, and the state right
after reset (the RESET rows of R1, R25, R52, R72, R88, R96, R106, R108, R119, R129, R143, R148, R167, R173, R187). -/

namespace Sys2Proof.Machine

/-- Sparse data by key: keys strictly rising, and no entry equal to what an unlisted key holds. -/
abbrev Sparse (α : Type) := List (Nat × α)

/-! ### Names of the spec -/

/-- Section 10.4. -/
inductive PartState where
  | reset | loading | running | failed
deriving DecidableEq, Repr

/-- Section 7.1. -/
inductive LampMode where
  | off | steady | slow | fast
deriving DecidableEq, Repr

/-- The modes of the 48 lamps of a shelf, in lamp order. -/
abbrev Image := Vector LampMode 48

/-- Section 1.2. -/
inductive SlotState where
  | free | recording | new | heard | saved | discarded | expired
deriving DecidableEq, Repr

/-- Section 1.1. -/
inductive Verdict where
  | none | kept | silent | timeout | load
deriving DecidableEq, Repr

/-- Section 2.3. -/
inductive MailboxStatus where
  | unassigned | active | suspended
deriving DecidableEq, Repr

/-- A greeting given (R111). -/
inductive Greeting where
  | primary | afterHours | onBreak | absence | system | none
deriving DecidableEq, Repr

/-- Section 9.2, used entries only. -/
inductive RegionKind where
  | mailboxDir | slotDir | audio | greeting | aliasWindow | report
deriving DecidableEq, Repr

/-- Section 5.4. -/
inductive SweepStep where
  | visiting | ending | reporting
deriving DecidableEq, Repr

/-- Section 8.1. -/
inductive ShelfLink where
  | unconfigured | probing | online | lost | halted
deriving DecidableEq, Repr

/-- Section 9.1. -/
inductive LinkKind where
  | read | write
deriving DecidableEq, Repr

/-- Section 9.1, the response to a host transaction. -/
inductive ResponseStatus where
  | done | adjusted | refused | memFault
deriving DecidableEq, Repr

/-- The requesters of the room arbiter, in the order of its rotation (R175). -/
inductive Requester where
  | upstream | deposit | sweep | control | loader
deriving DecidableEq, Repr

/-- Section 10.2. -/
inductive CommandOutcome where
  | accepted | sweepBusy | badArgument | broadcastLive | sourceState | notLive | badCommand
deriving DecidableEq, Repr

/-- Reasons of BROADCAST_ENDED (R79). -/
inductive EndReason where
  | allHeard | withdrawn | endDay
deriving DecidableEq, Repr

/-- Details of BAD_OWNER (R7). -/
inductive OwnerFault where
  | notFree | range
deriving DecidableEq, Repr

/-- Field names of FIELD_REFUSED, in the order of section 11.7. -/
inductive FieldName where
  | source | audioBlock | urgent | status | cls | capacity | lamp | schedule
  | primary | afterHours | onBreak | absence | absenceUntil | extension | acknowledge
deriving DecidableEq, Repr

/-- Record kinds of CONFIG_REFUSED, in the order of section 11.7. -/
inductive RecordKind where
  | command | consumer | cls | calibration | breakList | schedule | broadcast | shelf | reportRegion
deriving DecidableEq, Repr

/-- Check names of CONFIG_REFUSED, in the order of section 11.7. -/
inductive CheckName where
  | partialEntry | retention | depositLength | idleTime | lampPolicy | flag | locator | offset | gain | threshold
  | rangeOrder | rangeGap | rangeSequence | windowRange | windowOrder | windowGap | windowSequence
  | urgent | endDay | broadcastLive | shelfFlag | consumer | reportRegion
deriving DecidableEq, Repr

/-- The conditions of R165, in the order judged. -/
inductive FormFault where
  | align | length | line
deriving DecidableEq, Repr

/-- The checks of R168, in the order judged. -/
inductive MapCheck where
  | kind | align | bound | size | count | overlap
deriving DecidableEq, Repr

/-- Originators named by a MEMFAULT report (R178, R179). -/
inductive Originator where
  | host | translated | stamp | state
deriving DecidableEq, Repr

/-- Causes of SHELF_HALTED (R161). -/
inductive HaltCause where
  | checkError | watch
deriving DecidableEq, Repr

/-- The frames that begin an exchange (R150). -/
inductive ExchangeKind where
  | lampSet | probe
deriving DecidableEq, Repr

/-- Pieces of a composed window (R115). -/
inductive PieceKind where
  | preamble | greeting | trailer
deriving DecidableEq, Repr

/-- Why a load failed (R190). -/
inductive LoadFailure where
  | version (found : Nat)
  | map (entry : Option Nat) (check : MapCheck)
  | memFault (addr : Nat)
deriving DecidableEq, Repr

/-! ### Reports -/

/-- A report's kind with its detail (section 11.7). -/
inductive ReportBody where
  | loadDone (tables boxes slots : Nat)
  | commandDone (code : Nat) (outcome : CommandOutcome) (members : Nat)
  | sweepDone (expired skipped ended : Nat)
  | depositSilent (voiced minimum : Nat)
  | depositTimeout (voiced idle : Nat)
  | mailboxFull (capacity : Nat)
  | mailboxClosed (status : MailboxStatus)
  | noChannel
  | lateCommit (verdict : Verdict)
  | broadcastEnded (number : Nat) (reason : EndReason) (dropped : Nat)
  | shelfOnline (powerLow : Bool) (left : ShelfLink)
  | shelfImageMismatch (powerLow : Bool) (frame : ExchangeKind) (expected received : Nat)
  | shelfWatch (powerLow : Bool) (lowest matching : Nat)
  | latchPoolEmpty (lane : Nat)
  | greetingInPlay (addr lane : Nat)
  | procStopped (dark : Bool)
  | procRunning (dark : Bool)
  | badTransition (present : SlotState) (written : Nat)
  | badOwner (reason : OwnerFault)
  | fieldRefused (field : FieldName)
  | extentOutside (first : Nat)
  | extentClash (slot : Nat)
  | lampClash (box : Nat)
  | broadcastPinned (pins : Nat)
  | mailboxNotEmpty (count : Nat)
  | configRefused (addr : Nat) (record : RecordKind) (check : CheckName)
  | aliasWrite (addr : Nat)
  | linkMisformed (addr : Nat) (kind : LinkKind) (words : Nat) (condition : FormFault)
  | memFault (addr : Nat) (kind : LinkKind) (origin : Originator)
  | shelfLost (powerLow : Bool) (left : ShelfLink)
  | shelfHalted (powerLow : Bool) (cause : HaltCause)
  | loadFailed (cause : LoadFailure)
deriving DecidableEq, Repr

/-- A calendar reading as a report or a stamp carries it (section 5.1). -/
structure Reading where
  day    : Nat
  minute : Nat
  second : Nat
  isSet  : Bool
deriving DecidableEq, Repr

/-- A report as it is made (R192). -/
structure Report where
  body      : ReportBody
  mailbox   : Option Nat
  extension : Nat
  slot      : Option Nat
  shelf     : Option Nat
  tag       : Option (BitVec 32)
  reading   : Reading
deriving DecidableEq, Repr

/-- What the error latch holds of a report (R195). -/
structure LatchedError where
  body    : ReportBody
  mailbox : Option Nat
  slot    : Option Nat
  shelf   : Option Nat
deriving DecidableEq, Repr

/-- The report half of the Control and Report Unit (R190, R192 to R195). -/
structure ReportUnit where
  producer : Nat
  consumer : Nat
  /-- made and not yet asked for, oldest first -/
  held     : List Report
  /-- the report whose write awaits memory's answer -/
  writing  : Option Report
  dropped  : Bool
  latch    : Option LatchedError
  /-- the REPORT region base of the last load that reached RUNNING -/
  base     : Option Nat
deriving DecidableEq, Repr

/-! ### Transit Unit -/

/-- A used entry of the Region Map shadow (R167). -/
structure Region where
  kind : RegionKind
  base : Nat
  size : Nat
deriving DecidableEq, Repr

/-- Where an Outbound Queue entry comes from, and what its answer is for (R173, R177). -/
inductive Origin where
  /-- a forwarded host transaction; whether a reported cause withheld or replaced bytes of it, and the bytes
  overlaid on a READ -/
  | host (adjusted : Bool) (overlay : List (Option Byte))
  /-- an alias read at its physical address -/
  | translated
  | stamp (slot : Nat)
  | slotState (slot : Nat)
  /-- the loader's read of the given number -/
  | loadRead (index : Nat)
  /-- a repair, stamp or state write of the loader -/
  | loadWrite
  | report
  /-- an entry of a loader or report unit that RESET or a failed load has cut off: it drains, its answer is for
  nobody (R179, R187, R193) -/
  | drained
deriving DecidableEq, Repr

/-- One transaction of the memory link in the Outbound Queue (R173). A READ carries no lanes. -/
structure Entry where
  kind   : LinkKind
  addr   : Nat
  words  : Nat
  lanes  : List Lane
  origin : Origin
deriving DecidableEq, Repr

/-- A response with the data of a READ. -/
structure Response where
  status : ResponseStatus
  data   : List Byte
deriving DecidableEq, Repr

/-- The Transit Unit (R167, R173 to R177). -/
structure Transit where
  /-- the strap value sampled at the last entry to LOADING -/
  ctlSel   : BitVec 4
  regions  : List Region
  /-- arrivals at the upstream port not yet accepted, oldest first -/
  arrivals : List HostTxn
  /-- the Outbound Queue, oldest first -/
  queue    : List Entry
  /-- entries ever placed on the Outbound Queue: the model's own counter, read by free values (log 11) -/
  joined   : Nat
  turn     : Requester
  /-- the response order, oldest first: none while not fixed -/
  order    : List (Option Response)
  /-- responses returned upstream, oldest first: the port's output (log 25) -/
  returned : List Response
deriving DecidableEq, Repr

/-! ### Directories -/

/-- A deposit stamp (section 1.1). -/
structure Stamp where
  day    : Nat
  minute : Nat
  second : Nat
  unset  : Bool
deriving DecidableEq, Repr

/-- The expiry day of a slot. When absent, the day bytes hold what the loader read (R199), or nothing the spec states
(log 14). -/
inductive Expiry where
  | absent (held : Option Nat)
  | on (day : Nat)
deriving DecidableEq, Repr

/-- A metering result (section 1.1, R59). -/
structure Level where
  peak    : Nat
  voiced  : Nat
  clipped : Nat
deriving DecidableEq, Repr

/-- A record of the slot shadow (R1). -/
structure SlotRec where
  owner      : Nat
  state      : SlotState
  urgent     : Bool
  source     : Nat
  firstBlock : Nat
  stamp      : Stamp
  expiry     : Expiry
  level      : Level
  verdict    : Verdict
  /-- the deposit context while RECORDING -/
  context    : Option Nat
deriving DecidableEq, Repr

/-- A locator: absent when the length is 0 (section 11.1). -/
structure Locator where
  first  : Nat
  length : Nat
deriving DecidableEq, Repr

/-- A record of the mailbox shadow: host fields as their bytes are valued (absent encodings: schedule 255, lamp
255 and 255, absence minute 65,535, locator length 0; R198) and the derived state (R25). -/
structure MailboxRec where
  status        : MailboxStatus
  cls           : Nat
  capacity      : Nat
  schedule      : Nat
  lampShelf     : Nat
  lampNumber    : Nat
  extension     : Nat
  absenceDay    : Nat
  absenceMinute : Nat
  primary       : Locator
  afterHours    : Locator
  onBreak       : Locator
  absence       : Locator
  nonFree       : Nat
  new           : Nat
  urgentNew     : Nat
  heard         : Nat
  saved         : Nat
  spent         : Nat
  unheard       : Nat
  urgentUnheard : Nat
  full          : Bool
  mode          : LampMode
  unheardQueue  : List Nat
  keptQueue     : List Nat
deriving DecidableEq, Repr

/-! ### Deposit Unit -/

/-- OPEN with its idle deadline, or LAPSED (section 3.1). -/
inductive ContextState where
  | opened (deadline : Nat)
  | lapsed
deriving DecidableEq, Repr

/-- An in-use context of the Deposit Table (section 3.1). -/
structure Context where
  slot   : Nat
  owner  : Nat
  source : Nat
  first  : Nat
  length : Nat
  state  : ContextState
  /-- the idle time in seconds that set the deadline (R63) -/
  idle   : Nat
  level  : Level
deriving DecidableEq, Repr

/-- A timeout claim waiting to be taken (R62). -/
structure TimeoutClaim where
  context : Nat
  slot    : Nat
deriving DecidableEq, Repr

/-- A calibration source (section 3.2). -/
structure Calibration where
  offset    : Int
  gain      : Nat
  threshold : Nat
deriving DecidableEq, Repr

/-- The Deposit Unit (R52, R53, R62). A FREE context is none. -/
structure DepositUnit where
  contexts    : Vector (Option Context) 48
  claims      : List TimeoutClaim
  calibration : Vector Calibration 4
deriving DecidableEq, Repr

/-! ### Broadcast Unit -/

/-- An entry of the Broadcast Table (section 4.1). -/
structure Broadcast where
  present : Bool
  live    : Bool
  source  : Nat
  mask    : BitVec 8
  urgent  : Bool
  endDay  : Option Nat
  pending : List Nat
deriving DecidableEq, Repr

/-! ### Calendar and Sweep -/

/-- The calendar (section 5.1). -/
structure Calendar where
  fraction : Nat
  second   : Nat
  minute   : Nat
  day      : Nat
  isSet    : Bool
deriving DecidableEq, Repr

/-- The sweep record (section 5.4). -/
structure Sweep where
  active  : Bool
  step    : SweepStep
  day     : Nat
  cursor  : Nat
  expired : Nat
  skipped : Nat
  ended   : Nat
deriving DecidableEq, Repr

/-! ### Greeting Selector -/

/-- A used window of a schedule entry (R106). -/
structure Window where
  on  : Nat
  off : Nat
deriving DecidableEq, Repr

/-- A used range of the Break List (R108). -/
structure DayRange where
  first : Nat
  last  : Nat
deriving DecidableEq, Repr

/-- A piece of a composed window (R115). -/
structure Piece where
  kind   : PieceKind
  first  : Nat
  length : Nat
  start  : Nat
deriving DecidableEq, Repr

/-- A HELD play latch (R119). -/
structure Latch where
  mailbox  : Nat
  lane     : Nat
  greeting : Greeting
  pieces   : List Piece
  composed : Nat
  deadline : Nat
deriving DecidableEq, Repr

/-- The Greeting Selector (R106, R108, R119). The used windows of a schedule entry and the used ranges of the Break
List come first in their records (R106, R108), so each is held as the list of the used ones. A FREE latch is none. -/
structure GreetingUnit where
  schedules  : Vector (List Window) 64
  breaks     : List DayRange
  latches    : Vector (Option Latch) 48
  emptySpell : Bool
deriving DecidableEq, Repr

/-! ### Lamp Composer and Link Controllers -/

/-- A shelf entry with what the Lamp Composer derives for it and its link record (section 7.2, R143). -/
structure Shelf where
  configured     : Bool
  /-- watch sense FAULT -/
  watchFault     : Bool
  haltOnMatch    : Bool
  haltOnCheck    : Bool
  watchMask      : BitVec 48
  sourceSelect   : BitVec 48
  override       : Image
  mapped         : Vector (Option LampMode) 48
  composed       : Image
  /-- none: unknown -/
  lastSent       : Option Image
  invalidated    : Bool
  link           : ShelfLink
  misses         : Nat
  watchMatch     : Bool
  sequence       : Nat
  /-- the probe moment, or none -/
  probeAt        : Option Nat
  powerLow       : Bool
deriving DecidableEq, Repr

/-- The reply timeout of an exchange: not yet running while the frame is sent, running out at a moment, or suspended
with cycles left while a reply arrives (R150). -/
inductive ReplyTimer where
  | sending
  | waiting (until_ : Nat)
  | suspended (left : Nat)
deriving DecidableEq, Repr

/-- An exchange in flight (R143, R150). -/
structure Exchange where
  kind     : ExchangeKind
  addr     : Nat
  /-- the sequence the frame carried, 0 for a PROBE -/
  sequence : Nat
  /-- the image a LAMP_SET carried -/
  image    : Option Image
  words    : List FrameWord
  timer    : ReplyTimer
  orphaned : Bool
deriving DecidableEq, Repr

/-- What a link is doing. -/
inductive Activity where
  | idle
  | cadence (words : List FrameWord)
  | exchange (x : Exchange)
deriving DecidableEq, Repr

/-- One link: its dirty set (addresses rising) and cursor (R136, R137), its activity and cadence-due flag (R143). -/
structure LinkState where
  dirty      : List Nat
  cursor     : Nat
  activity   : Activity
  cadenceDue : Bool
deriving DecidableEq, Repr

/-- The lamp plant's half of the part: 192 shelf entries, two links and the cadence generator (R129, R143, R148). -/
structure Lamps where
  shelves : Vector Shelf 192
  linkA   : LinkState
  linkB   : LinkState
  phase   : Nat
  /-- CLK32 cycles since the last tick -/
  cycles  : Nat
deriving DecidableEq, Repr

/-! ### Control and Report Unit and loader -/

/-- The header values loaded (R184). -/
structure Header where
  weekday       : Nat
  sweepMinute   : Option Nat
  /-- PRUN policy DARK -/
  dark          : Bool
  latchIdle     : Nat
  probeInterval : Nat
  replyTimeout  : Nat
deriving DecidableEq, Repr

/-- An entry of the Class Table shadow (R183). -/
structure ClassEntry where
  retainNew     : Nat
  retainHeard   : Nat
  retainSaved   : Nat
  maxDeposit    : Nat
  idle          : Nat
  followsBreaks : Bool
  urgentMode    : LampMode
  pendingMode   : LampMode
  fullMode      : LampMode
  minVoiced     : Nat
  system        : Locator
  preamble      : Locator
  trailer       : Locator
deriving DecidableEq, Repr

/-- A command as the command record carries it (R185). -/
structure Command where
  code     : Nat
  argument : List Byte
  tag      : BitVec 32
deriving DecidableEq, Repr

/-- The control half of the Control and Report Unit (section 10 introduction). -/
structure ControlUnit where
  header  : Header
  classes : Vector ClassEntry 8
  /-- the last command taken -/
  command : Option Command
deriving DecidableEq, Repr

/-- The set-aside counts (R189). -/
structure LoadCounts where
  tables : Nat
  boxes  : Nat
  slots  : Nat
deriving DecidableEq, Repr

/-- A load in progress (R188). -/
structure Loader where
  /-- the number of the next read to be placed -/
  next     : Nat
  /-- the reads answered and judged -/
  judged   : Nat
  /-- the lines of step 1 read so far -/
  lines    : List Byte
  /-- the consumer index loaded -/
  consumer : Nat
  /-- groups of writes waiting for room, oldest first -/
  writes   : List (List Entry)
deriving DecidableEq, Repr

/-! ### The part -/

/-- The whole part, and the commands waiting for it. -/
@[ext]
structure State where
  pending    : List Instr
  part       : PartState
  /-- level of the PRUN input -/
  prun       : Bool
  /-- level of the CTLSEL straps -/
  straps     : BitVec 4
  /-- CLK32 edges counted: the moments of deadlines (log 28) -/
  now        : Nat
  transit    : Transit
  slots      : Sparse SlotRec
  boxes      : Sparse MailboxRec
  /-- for each lamp position (shelf entry times 48 plus lamp) the mailbox that holds it -/
  lampMap    : Sparse (Option Nat)
  deposit    : DepositUnit
  broadcasts : Vector Broadcast 16
  calendar   : Calendar
  sweep      : Sweep
  greetings  : GreetingUnit
  lamps      : Lamps
  control    : ControlUnit
  reports    : ReportUnit
  counts     : LoadCounts
  /-- host tag of the RESTART whose load is running (R191) -/
  restartTag : Option (BitVec 32)
  loader     : Option Loader
  /-- a load that has failed and whose entries still drain (R179, R190, log 37) -/
  failing    : Option LoadFailure
deriving DecidableEq, Repr

/-- Why a step may stop with a fault: the spec gives the part no stop (it answers, reports or enters FAILED), so there
is none. Safe: nothing is left out by a stop. -/
inductive Fault where
deriving DecidableEq, Repr

/-- Why a step may be refused. -/
inductive Refusal where
  /-- Raised by exec's arm of a command that has no meaning yet. Safe: nothing can be proved about its effect. -/
  | notModelled (mnemonic : String)
deriving DecidableEq, Repr

/-! ### Empty and reset values -/

/-- What an unlisted slot of the shadow holds: the record of 32 zero bytes, FREE (R1, R20). -/
def SlotRec.empty : SlotRec where
  owner := 0
  state := .free
  urgent := false
  source := 0
  firstBlock := 0
  stamp := ⟨0, 0, 0, false⟩
  expiry := .absent (some 0)
  level := ⟨0, 0, 0⟩
  verdict := .none
  context := none

/-- What an unlisted mailbox of the shadow holds: the defaults of R48, owning nothing. -/
def MailboxRec.empty : MailboxRec where
  status := .unassigned
  cls := 0
  capacity := 1
  schedule := 255
  lampShelf := 255
  lampNumber := 255
  extension := 0
  absenceDay := 0
  absenceMinute := 65535
  primary := ⟨0, 0⟩
  afterHours := ⟨0, 0⟩
  onBreak := ⟨0, 0⟩
  absence := ⟨0, 0⟩
  nonFree := 0
  new := 0
  urgentNew := 0
  heard := 0
  saved := 0
  spent := 0
  unheard := 0
  urgentUnheard := 0
  full := false
  mode := .off
  unheardQueue := []
  keptQueue := []

/-- The calibration of a source set aside (R53). -/
def Calibration.default : Calibration := ⟨0, 256, 0⟩

/-- An absent, IDLE broadcast entry (R72). -/
def Broadcast.absent : Broadcast := ⟨false, false, 0, 0, false, none, []⟩

/-- The calendar under RESET (R88). -/
def Calendar.atReset : Calendar := ⟨0, 0, 0, 0, false⟩

/-- The sweep record under RESET and at entry to LOADING (R96). -/
def Sweep.idle : Sweep := ⟨false, .visiting, 0, 0, 0, 0, 0⟩

/-- The Deposit Unit with every context FREE and the Calibration shadow empty (R52, R53). -/
def DepositUnit.empty : DepositUnit := ⟨Vector.replicate 48 none, [], Vector.replicate 4 Calibration.default⟩

/-- The Greeting Selector with empty tables and every latch FREE (R106, R108, R119). -/
def GreetingUnit.empty : GreetingUnit := ⟨Vector.replicate 64 [], [], Vector.replicate 48 none, false⟩

/-- An image of 48 OFF. -/
def Image.dark : Image := Vector.replicate 48 .off

/-- A shelf entry under RESET (R129, R143). -/
def Shelf.empty : Shelf where
  configured := false
  watchFault := false
  haltOnMatch := false
  haltOnCheck := false
  watchMask := 0
  sourceSelect := 0
  override := Image.dark
  mapped := Vector.replicate 48 none
  composed := Image.dark
  lastSent := none
  invalidated := false
  link := .unconfigured
  misses := 0
  watchMatch := false
  sequence := 0
  probeAt := none
  powerLow := false

/-- A link under RESET (R129, R143). -/
def LinkState.empty : LinkState := ⟨[], 95, .idle, false⟩

/-- The header values of an empty shadow: those R93, R122, R133, R150 and R152 load in place of bad ones (log 7). -/
def Header.default : Header := ⟨0, none, false, 10, 5, 1000⟩

/-- A class entry set aside (R183). -/
def ClassEntry.default : ClassEntry where
  retainNew := 0
  retainHeard := 0
  retainSaved := 0
  maxDeposit := 1024
  idle := 30
  followsBreaks := false
  urgentMode := .fast
  pendingMode := .steady
  fullMode := .off
  minVoiced := 0
  system := ⟨0, 0⟩
  preamble := ⟨0, 0⟩
  trailer := ⟨0, 0⟩

/-- The control half with empty shadows. -/
def ControlUnit.empty : ControlUnit := ⟨Header.default, Vector.replicate 8 ClassEntry.default, none⟩

/-- The report half under RESET (R193, R194, R195, R196). -/
def ReportUnit.empty : ReportUnit := ⟨0, 0, [], none, false, none, none⟩

/-- The part right after RESET is asserted at power-up, RESET held (log 6, 7). -/
def State.reset : State where
  pending := []
  part := .reset
  prun := true
  straps := 0
  now := 0
  transit := ⟨0, [], [], [], 0, .upstream, [], []⟩
  slots := []
  boxes := []
  lampMap := []
  deposit := DepositUnit.empty
  broadcasts := Vector.replicate 16 Broadcast.absent
  calendar := Calendar.atReset
  sweep := Sweep.idle
  greetings := GreetingUnit.empty
  lamps := ⟨Vector.replicate 192 Shelf.empty, LinkState.empty, LinkState.empty, 0, 0⟩
  control := ControlUnit.empty
  reports := ReportUnit.empty
  counts := ⟨0, 0, 0⟩
  restartTag := none
  loader := none
  failing := none

end Sys2Proof.Machine
end

