-- ==== Sys2Proof/Machine/Bytes.lean ====
section
/-! DEFINITION. Byte order and bit fields: multi-byte fields are little-endian (section 11), lamp masks and images are
packed as section 11.6 and 11.8 draw them. -/

namespace Sys2Proof.Machine

/-- The low bytes of a number, least significant first. -/
def leBytes : Nat → Nat → List Byte
  | 0, _ => []
  | n + 1, v => BitVec.ofNat 8 v :: leBytes n (v / 256)

/-- The number that little-endian bytes hold. -/
def leNat : List Byte → Nat
  | [] => 0
  | b :: bs => b.toNat + 256 * leNat bs

/-- The number in `size` bytes at an offset of a record. -/
def fieldOf (bytes : List Byte) (offset size : Nat) : Nat := leNat ((bytes.drop offset).take size)

/-- One byte of a record. -/
def byteOf (bytes : List Byte) (offset : Nat) : Nat := fieldOf bytes offset 1

/-- A signed 16-bit field in two's complement (section 11). -/
def signedOf (bytes : List Byte) (offset : Nat) : Int := (BitVec.ofNat 16 (fieldOf bytes offset 2)).toInt

/-- Zero bytes. -/
def zeros (n : Nat) : List Byte := List.replicate n 0

/-- 00h for no and 01h for yes (section 11.1). -/
def yesNo (b : Bool) : Byte := if b then 1 else 0

/-- A 48-flag mask of six bytes: lamp k in bit k mod 8 of byte k div 8 (section 11.6). -/
def maskOf (bytes : List Byte) (offset : Nat) : BitVec 48 := BitVec.ofNat 48 (fieldOf bytes offset 6)

/-- The number of a lamp mode code (section 11.1). -/
def modeCode : LampMode → Nat
  | .off => 0
  | .steady => 1
  | .slow => 2
  | .fast => 3

/-- The mode of a two-bit code; every value of two bits is a code (section 11.1). -/
def modeOfBits (n : Nat) : LampMode :=
  match n % 4 with
  | 0 => .off
  | 1 => .steady
  | 2 => .slow
  | _ => .fast

/-- Two bits a lamp, lamp 0 lowest (section 11.6, 11.8). -/
def packModes : List LampMode → Nat
  | [] => 0
  | m :: ms => modeCode m + 4 * packModes ms

/-- The image that packed modes hold. -/
def imageOf (packed : Nat) : Image := Vector.ofFn fun k => modeOfBits (packed / 4 ^ k.val)

/-- 16-bit words of a packed number, lowest first. -/
def wordsOf : Nat → Nat → List FrameWord
  | 0, _ => []
  | n + 1, v => BitVec.ofNat 16 v :: wordsOf n (v / 65536)

/-- The sum of 16-bit words modulo 65,536 (R144). -/
def wordSum : List FrameWord → FrameWord
  | [] => 0
  | w :: ws => w + wordSum ws

/-- A frame of the given words closed by its check word: all its words sum to 0 modulo 65,536 (R144). -/
def sealFrame (words : List FrameWord) : List FrameWord := words ++ [-(wordSum words)]

/-! ### Words on a lamp link -/

/-- A word as it passes on a lamp link: its 16 bits, the least significant first (R200). -/
def wordBits (w : FrameWord) : List Bool := (List.range 16).map w.getLsbD

/-- A frame as it passes on a lamp link: its words in ascending order (R200). -/
def frameBits : List FrameWord → List Bool
  | [] => []
  | w :: ws => wordBits w ++ frameBits ws

/-- The number that bits hold, the least significant first. -/
def bitsNat : List Bool → Nat
  | [] => 0
  | b :: bs => b.toNat + 2 * bitsNat bs

/-- The first words that arriving bits form (R200). -/
def wordsOfBits : Nat → List Bool → List FrameWord
  | 0, _ => []
  | n + 1, bits => BitVec.ofNat 16 (bitsNat (bits.take 16)) :: wordsOfBits n (bits.drop 16)

/-- The words of a frame whose bits have arrived (R200). A run of bits that ends within a word is no run of words, and
counts as the empty one, a check error (R144, log 41). -/
def framed (bits : List Bool) : List FrameWord :=
  if bits.length % 16 = 0 then wordsOfBits (bits.length / 16) bits else []

/-- Sum of mode code times lamp number plus one, from a lamp on (R147). -/
def checksumFrom : Nat → List LampMode → Nat
  | _, [] => 0
  | k, m :: ms => modeCode m * (k + 1) + checksumFrom (k + 1) ms

/-- The applied-image checksum of an image (R147). -/
def checksum (image : Image) : Nat := checksumFrom 0 image.toList % 65536

/-- A free value's low bytes as a number (log 11). -/
def unmeantNat (field : Config.Unmeant) (index size : Nat) : Nat :=
  (Config.unmeant field index).toNat % 256 ^ size

end Sys2Proof.Machine
end

