-- ==== Sys2Proof/Machine/Codes.lean ====
section
/-! DEFINITION. The code values of section 11.1 and 11.7, in both directions where the part reads them. -/

namespace Sys2Proof.Machine

def slotStateCode : SlotState → Nat
  | .free => 0 | .recording => 1 | .new => 2 | .heard => 3 | .saved => 4 | .discarded => 5 | .expired => 6

def slotStateOf : Nat → Option SlotState
  | 0 => some .free
  | 1 => some .recording
  | 2 => some .new
  | 3 => some .heard
  | 4 => some .saved
  | 5 => some .discarded
  | 6 => some .expired
  | _ => none

def verdictCode : Verdict → Nat
  | .none => 0 | .kept => 1 | .silent => 2 | .timeout => 3 | .load => 4

/-- A verdict byte above 04h is held as NONE (R199). -/
def verdictOf : Nat → Verdict
  | 1 => .kept
  | 2 => .silent
  | 3 => .timeout
  | 4 => .load
  | _ => .none

def statusCode : MailboxStatus → Nat
  | .unassigned => 0 | .active => 1 | .suspended => 2

def statusOf : Nat → Option MailboxStatus
  | 0 => some .unassigned
  | 1 => some .active
  | 2 => some .suspended
  | _ => none

/-- A whole-byte lamp mode code (class entry, section 11.6). -/
def modeOf : Nat → Option LampMode
  | 0 => some .off
  | 1 => some .steady
  | 2 => some .slow
  | 3 => some .fast
  | _ => none

/-- A yes/no field (section 11.1). -/
def flagOf : Nat → Option Bool
  | 0 => some false
  | 1 => some true
  | _ => none

def greetingCode : Greeting → Nat
  | .primary => 0 | .afterHours => 1 | .onBreak => 2 | .absence => 3 | .system => 4 | .none => 5

def partCode : PartState → Nat
  | .reset => 0 | .loading => 1 | .running => 2 | .failed => 3

/-- Region kinds: none for UNUSED, and outside the codes nothing (section 11.1). -/
def regionKindOf : Nat → Option (Option RegionKind)
  | 0 => some none
  | 1 => some (some .mailboxDir)
  | 2 => some (some .slotDir)
  | 3 => some (some .audio)
  | 4 => some (some .greeting)
  | 5 => some (some .aliasWindow)
  | 6 => some (some .report)
  | _ => none

def outcomeCode : CommandOutcome → Nat
  | .accepted => 0 | .sweepBusy => 1 | .badArgument => 2 | .broadcastLive => 3 | .sourceState => 4
  | .notLive => 5 | .badCommand => 6

def shelfLinkCode : ShelfLink → Nat
  | .unconfigured => 0 | .probing => 1 | .online => 2 | .lost => 3 | .halted => 4

def exchangeCode : ExchangeKind → Nat
  | .lampSet => 1 | .probe => 2

def linkKindCode : LinkKind → Nat
  | .read => 0 | .write => 1

def endReasonCode : EndReason → Nat
  | .allHeard => 0 | .withdrawn => 1 | .endDay => 2

def ownerFaultCode : OwnerFault → Nat
  | .notFree => 0 | .range => 1

def fieldNameCode : FieldName → Nat
  | .source => 0 | .audioBlock => 1 | .urgent => 2 | .status => 3 | .cls => 4 | .capacity => 5 | .lamp => 6
  | .schedule => 7 | .primary => 8 | .afterHours => 9 | .onBreak => 10 | .absence => 11 | .absenceUntil => 12
  | .extension => 13 | .acknowledge => 14

def recordKindCode : RecordKind → Nat
  | .command => 0 | .consumer => 1 | .cls => 2 | .calibration => 3 | .breakList => 4 | .schedule => 5
  | .broadcast => 6 | .shelf => 7 | .reportRegion => 8

def checkNameCode : CheckName → Nat
  | .partialEntry => 0 | .retention => 1 | .depositLength => 2 | .idleTime => 3 | .lampPolicy => 4 | .flag => 5
  | .locator => 6 | .offset => 7 | .gain => 8 | .threshold => 9 | .rangeOrder => 10 | .rangeGap => 11
  | .rangeSequence => 12 | .windowRange => 13 | .windowOrder => 14 | .windowGap => 15 | .windowSequence => 16
  | .urgent => 17 | .endDay => 18 | .broadcastLive => 19 | .shelfFlag => 20 | .consumer => 21 | .reportRegion => 22

def formFaultCode : FormFault → Nat
  | .align => 0 | .length => 1 | .line => 2

def mapCheckCode : MapCheck → Nat
  | .kind => 0 | .align => 1 | .bound => 2 | .size => 3 | .count => 4 | .overlap => 5

def originatorCode : Originator → Nat
  | .host => 0 | .translated => 1 | .stamp => 2 | .state => 3

def haltCauseCode : HaltCause → Nat
  | .checkError => 0 | .watch => 1

/-- Report kind codes (section 11.7). -/
def reportCode : ReportBody → Nat
  | .loadDone .. => 0x01
  | .commandDone .. => 0x02
  | .sweepDone .. => 0x03
  | .depositSilent .. => 0x04
  | .depositTimeout .. => 0x05
  | .mailboxFull .. => 0x06
  | .mailboxClosed .. => 0x07
  | .noChannel => 0x08
  | .lateCommit .. => 0x09
  | .broadcastEnded .. => 0x0a
  | .shelfOnline .. => 0x0b
  | .shelfImageMismatch .. => 0x0c
  | .shelfWatch .. => 0x0d
  | .latchPoolEmpty .. => 0x0e
  | .greetingInPlay .. => 0x0f
  | .procStopped .. => 0x10
  | .procRunning .. => 0x11
  | .badTransition .. => 0x21
  | .badOwner .. => 0x22
  | .fieldRefused .. => 0x23
  | .extentOutside .. => 0x24
  | .extentClash .. => 0x25
  | .lampClash .. => 0x26
  | .broadcastPinned .. => 0x27
  | .mailboxNotEmpty .. => 0x28
  | .configRefused .. => 0x29
  | .aliasWrite .. => 0x2a
  | .linkMisformed .. => 0x2b
  | .memFault .. => 0x2c
  | .shelfLost .. => 0x2d
  | .shelfHalted .. => 0x2e
  | .loadFailed .. => 0x2f

/-- The severity of a kind (R8, R39, R161, R178, R190 and the rules that make the others): the codes from 21h on are
the errors. -/
def isError (body : ReportBody) : Bool := 0x20 < reportCode body

/-- A count in two bytes; a larger one is a free value (log 12). -/
def countBytes (n : Nat) : List Byte := if n ≤ 65535 then leBytes 2 n else leBytes 2 (Config.oversizeCount n).toNat

/-- Detail bytes filled up to eight with zeros ("values not named are written as zero", section 11.7). -/
def detail8 (bytes : List Byte) : List Byte := (bytes ++ zeros 8).take 8

/-- The detail bytes 18h to 1Fh of a report (section 11.7). -/
def reportDetail : ReportBody → List Byte
  | .loadDone tables boxes slots => detail8 (leBytes 2 tables ++ leBytes 2 boxes ++ leBytes 4 slots)
  | .commandDone code outcome members =>
      detail8 (leBytes 2 code ++ leBytes 1 (outcomeCode outcome) ++ zeros 1 ++ leBytes 2 members)
  | .sweepDone expired skipped ended => detail8 (leBytes 3 expired ++ leBytes 3 skipped ++ leBytes 1 ended)
  | .depositSilent voiced minimum => detail8 (leBytes 2 voiced ++ leBytes 2 minimum)
  | .depositTimeout voiced idle => detail8 (leBytes 2 voiced ++ leBytes 1 idle)
  | .mailboxFull capacity => detail8 (leBytes 1 capacity)
  | .mailboxClosed status => detail8 (leBytes 1 (statusCode status))
  | .noChannel => detail8 []
  | .lateCommit verdict => detail8 (leBytes 1 (verdictCode verdict))
  | .broadcastEnded number reason dropped =>
      detail8 (leBytes 1 number ++ leBytes 1 (endReasonCode reason) ++ leBytes 2 dropped)
  | .shelfOnline low left => detail8 ([yesNo low] ++ leBytes 1 (shelfLinkCode left))
  | .shelfImageMismatch low frame expected received =>
      detail8 ([yesNo low] ++ leBytes 1 (exchangeCode frame) ++ leBytes 2 expected ++ leBytes 2 received)
  | .shelfWatch low lowest matching => detail8 ([yesNo low] ++ leBytes 1 lowest ++ leBytes 1 matching)
  | .latchPoolEmpty lane => detail8 (leBytes 1 lane)
  | .greetingInPlay addr lane => detail8 (leBytes 5 addr ++ leBytes 1 lane)
  | .procStopped dark => detail8 [yesNo dark]
  | .procRunning dark => detail8 [yesNo dark]
  | .badTransition present written => detail8 (leBytes 1 (slotStateCode present) ++ leBytes 1 written)
  | .badOwner reason => detail8 (leBytes 1 (ownerFaultCode reason))
  | .fieldRefused field => detail8 (leBytes 1 (fieldNameCode field))
  | .extentOutside first => detail8 (leBytes 3 first)
  | .extentClash slot => detail8 (leBytes 2 slot)
  | .lampClash box => detail8 (leBytes 2 box)
  | .broadcastPinned pins => detail8 (leBytes 1 pins)
  | .mailboxNotEmpty count => detail8 (countBytes count)
  | .configRefused addr record check =>
      detail8 (leBytes 5 addr ++ leBytes 1 (recordKindCode record) ++ leBytes 1 (checkNameCode check))
  | .aliasWrite addr => detail8 (leBytes 5 addr)
  | .linkMisformed addr kind words condition =>
      detail8 (leBytes 5 addr ++ leBytes 1 (linkKindCode kind) ++ leBytes 1 words ++ leBytes 1 (formFaultCode condition))
  | .memFault addr kind origin =>
      detail8 (leBytes 5 addr ++ leBytes 1 (linkKindCode kind) ++ leBytes 1 (originatorCode origin))
  | .shelfLost low left => detail8 ([yesNo low] ++ leBytes 1 (shelfLinkCode left))
  | .shelfHalted low cause => detail8 ([yesNo low] ++ leBytes 1 (haltCauseCode cause))
  | .loadFailed (.version found) => leBytes 2 found ++ zeros 3 ++ leBytes 1 0xff ++ leBytes 1 0 ++ leBytes 1 0
  | .loadFailed (.map entry check) =>
      zeros 5 ++ leBytes 1 (entry.getD 0xff) ++ leBytes 1 (mapCheckCode check) ++ leBytes 1 1
  | .loadFailed (.memFault addr) => leBytes 5 addr ++ leBytes 1 0xff ++ leBytes 1 0 ++ leBytes 1 2

/-- A presence byte with its field: the field's bytes mean nothing when absent (section 11.1, log 11). -/
def optionalNat (value : Option Nat) (field : Config.Unmeant) (index size : Nat) : Nat :=
  match value with
  | some n => n
  | none => unmeantNat field index size

/-- The 32 bytes of a report record (section 11.7); `index` numbers the Outbound Queue entry that carries it. -/
def reportBytes (index : Nat) (r : Report) : List Byte :=
  leBytes 1 (reportCode r.body) ++ [yesNo (isError r.body)] ++ leBytes 2 (r.mailbox.getD 0xffff)
    ++ leBytes 4 r.extension ++ leBytes 2 (optionalNat r.slot .reportSlot index 2) ++ [yesNo r.slot.isSome]
    ++ leBytes 1 (r.shelf.getD 0xff) ++ leBytes 4 (optionalNat (r.tag.map (·.toNat)) .reportTag index 4)
    ++ [yesNo r.tag.isSome, yesNo r.reading.isSet] ++ leBytes 2 r.reading.day ++ leBytes 2 r.reading.minute
    ++ leBytes 1 r.reading.second ++ zeros 1 ++ reportDetail r.body

end Sys2Proof.Machine
end

