-- ==== Sys2Proof/Machine/Ops.lean ====
section
/-! DEFINITION. The named operations over the state that every block shares: sparse data, the directories, the tables,
reports and the error latch (R192, R194, R195), and the Outbound Queue (R173). -/

namespace Sys2Proof.Machine

/-! ### Sparse data -/

/-- What a key holds; `d` is what an unlisted key holds. -/
def sparseGet (d : α) : Sparse α → Nat → α
  | [], _ => d
  | (j, v) :: m, k => if k = j then v else sparseGet d m k

/-- A key and its value put before the first higher key. -/
def sparseInsert (k : Nat) (v : α) : Sparse α → Sparse α
  | [] => [(k, v)]
  | (j, u) :: m => if k < j then (k, v) :: (j, u) :: m else (j, u) :: sparseInsert k v m

/-- Write one key, keeping the keys rising and no entry equal to `d`. -/
def sparseSet [DecidableEq α] (d : α) (m : Sparse α) (k : Nat) (v : α) : Sparse α :=
  if v = d then m.filter (·.1 != k) else sparseInsert k v (m.filter (·.1 != k))

/-- The canonical form: keys strictly rising, no entry equal to `d`. -/
def sparseWf [DecidableEq α] (d : α) : Sparse α → Bool
  | [] => true
  | (j, u) :: m => decide (u ≠ d) && m.all (fun e => decide (j < e.1)) && sparseWf d m

/-! ### Directories and tables -/

def slotAt (s : State) (n : Nat) : SlotRec := sparseGet SlotRec.empty s.slots n

def putSlot (n : Nat) (r : SlotRec) (s : State) : State :=
  { s with slots := sparseSet SlotRec.empty s.slots n r }

def boxAt (s : State) (m : Nat) : MailboxRec := sparseGet MailboxRec.empty s.boxes m

def putBox (m : Nat) (b : MailboxRec) (s : State) : State :=
  { s with boxes := sparseSet MailboxRec.empty s.boxes m b }

/-- The mailbox that holds a lamp position (R25). -/
def holderAt (s : State) (p : Nat) : Option Nat := sparseGet none s.lampMap p

def putHolder (p : Nat) (m : Option Nat) (s : State) : State :=
  { s with lampMap := sparseSet none s.lampMap p m }

def classAt (s : State) (c : Nat) : ClassEntry := s.control.classes[c]?.getD ClassEntry.default

/-- The class of a mailbox. -/
def classOf (s : State) (m : Nat) : ClassEntry := classAt s (boxAt s m).cls

def broadcastAt (s : State) (n : Nat) : Broadcast := s.broadcasts[n]?.getD Broadcast.absent

def putBroadcast (n : Nat) (b : Broadcast) (s : State) : State :=
  { s with broadcasts := s.broadcasts.setIfInBounds n b }

def contextAt (s : State) (k : Nat) : Option Context := s.deposit.contexts[k]?.getD none

def putContext (k : Nat) (c : Option Context) (s : State) : State :=
  { s with deposit := { s.deposit with contexts := s.deposit.contexts.setIfInBounds k c } }

def calibrationAt (s : State) (k : Nat) : Calibration := s.deposit.calibration[k]?.getD Calibration.default

def scheduleAt (s : State) (k : Nat) : List Window := s.greetings.schedules[k]?.getD []

def latchAt (s : State) (k : Nat) : Option Latch := s.greetings.latches[k]?.getD none

def putLatch (k : Nat) (l : Option Latch) (s : State) : State :=
  { s with greetings := { s.greetings with latches := s.greetings.latches.setIfInBounds k l } }

/-- The lowest number whose cell passes a test. -/
def lowest (p : α → Bool) : List α → Option Nat
  | [] => none
  | x :: xs => if p x then some 0 else (lowest p xs).map (· + 1)

/-- The base of the one region of a kind (R168). -/
def regionBase (s : State) (kind : RegionKind) : Nat :=
  ((s.transit.regions.find? (·.kind == kind)).map (·.base)).getD 0

/-- The base of the Control Area (R167). -/
def controlBase (s : State) : Nat := Config.controlStep * s.transit.ctlSel.toNat

/-- The calendar reading (section 5.1). -/
def readingOf (s : State) : Reading :=
  ⟨s.calendar.day, s.calendar.minute, s.calendar.second, s.calendar.isSet⟩

/-- CLK32 cycles of a time in seconds. -/
def secondsToCycles (seconds : Nat) : Nat := Config.cyclesPerSecond * seconds

/-- A moment has come: the count of CLK32 edges stands at it, or past it already (log 5). -/
def reachMoment (moment : Nat) (s : State) : State := { s with now := if s.now < moment then moment else s.now }

/-- `f` applied for each number of a list in order. -/
def forEach (f : Nat → State → State) : List Nat → State → State
  | [], s => s
  | n :: ns, s => forEach f ns (f n s)

/-! ### Reports -/

/-- Unread records of the ring: (producer index − consumer index) mod 256 (R194). -/
def unread (u : ReportUnit) : Nat := (u.producer + (256 - u.consumer % 256)) % 256

/-- Reports made and not yet written, the one being written among them (R192, R193). -/
def unwritten (u : ReportUnit) : Nat := u.held.length + (if u.writing.isSome then 1 else 0)

/-- Reports not yet asked for are dropped, and the dropped flag stays: at entry to LOADING (R191), and for the reports
made in LOADING at its end (log 44). -/
def dropHeld (u : ReportUnit) : ReportUnit := { u with held := [] }

/-- A report joins the held list, or is dropped when 255 are unread or unwritten (R192). -/
def joinHeld (r : Report) (u : ReportUnit) : ReportUnit :=
  if unread u + unwritten u < Config.reportPlaces then { u with held := u.held ++ [r] }
  else { u with dropped := true }

/-- An ERROR report fills an empty latch (R195). -/
def fillLatch (r : Report) (u : ReportUnit) : ReportUnit :=
  if isError r.body && u.latch.isNone then { u with latch := some ⟨r.body, r.mailbox, r.slot, r.shelf⟩ } else u

def isLoadFailed : ReportBody → Bool
  | .loadFailed _ => true
  | _ => false

/-- Whether a report is made in a part state: none under RESET (R193), LOAD_FAILED alone in FAILED (R190). -/
def reportable (p : PartState) (body : ReportBody) : Bool :=
  match p with
  | .reset => false
  | .failed => isLoadFailed body
  | _ => true

/-- The report that a block passes, with its fields fixed as it is made (R192); the extension is the shadow's (R37). -/
def reportNow (body : ReportBody) (mailbox slot shelf : Option Nat) (tag : Option (BitVec 32)) (s : State) : Report where
  body := body
  mailbox := mailbox
  extension := match mailbox with
    | some m => (boxAt s m).extension
    | none => 0
  slot := slot
  shelf := shelf
  tag := tag
  reading := readingOf s

/-- A report is made: it reaches the latch if it is an error, then the held list or the drop (R192, R195). -/
def makeReport (body : ReportBody) (mailbox slot shelf : Option Nat) (tag : Option (BitVec 32)) (s : State) : State :=
  if reportable s.part body then
    { s with reports := joinHeld (reportNow body mailbox slot shelf tag s)
                          (fillLatch (reportNow body mailbox slot shelf tag s) s.reports) }
  else s

/-- Reports of one slot record, in order (R8). -/
def reportSlot (n owner : Nat) : List ReportBody → State → State
  | [], s => s
  | b :: bs, s => reportSlot n owner bs (makeReport b (some owner) (some n) none none s)

/-- Reports of one mailbox record, in order (R39). -/
def reportBox (m : Nat) : List ReportBody → State → State
  | [], s => s
  | b :: bs, s => reportBox m bs (makeReport b (some m) none none none s)

/-- A report that names only a shelf entry (R161). -/
def reportShelf (e : Nat) (body : ReportBody) (s : State) : State := makeReport body none none (some e) none s

/-- COMMAND_DONE for a command (R185). -/
def commandDone (c : Command) (outcome : CommandOutcome) (members : Nat) (s : State) : State :=
  makeReport (.commandDone c.code outcome members) none none none (some c.tag) s

/-! ### Outbound Queue -/

/-- Free places of the Outbound Queue (R173). -/
def freeRoom (s : State) : Nat := Config.queuePlaces - s.transit.queue.length

/-- Entries join the queue as one group (R173). -/
def place (es : List Entry) (s : State) : State :=
  { s with transit := { s.transit with queue := s.transit.queue ++ es, joined := s.transit.joined + es.length } }

/-- A byte written. -/
def live (b : Byte) : Lane := ⟨true, b⟩

/-- A byte not written (log 27). -/
def dead : Lane := ⟨false, 0⟩

/-- The expiry day's two bytes: as held when absent, or nothing the spec states (R199, log 14). -/
def expiryDayOf (n index : Nat) : Expiry → Nat
  | .on day => day
  | .absent (some day) => day
  | .absent none => unmeantNat (.expiryDay n) index 2

def expiryPresent : Expiry → Bool
  | .on _ => true
  | .absent _ => false

/-- The stamped bytes 08h to 17h of a slot record (section 11.2); `index` numbers the entry that carries them. -/
def stampedBytes (n index : Nat) (r : SlotRec) : List Byte :=
  leBytes 2 r.stamp.day ++ leBytes 2 r.stamp.minute ++ leBytes 1 r.stamp.second ++ [yesNo r.stamp.unset]
    ++ leBytes 2 (expiryDayOf n index r.expiry) ++ [yesNo (expiryPresent r.expiry)]
    ++ leBytes 1 (verdictCode r.verdict) ++ leBytes 2 r.level.peak ++ leBytes 2 r.level.voiced
    ++ leBytes 2 r.level.clipped

/-- A stamp write: two words at record offset 08h, every byte enabled (R21, R198). -/
def stampEntry (base n index : Nat) (r : SlotRec) (origin : Origin) : Entry :=
  ⟨.write, base + n * 32 + 8, 2, (stampedBytes n index r).map live, origin⟩

/-- A part-made state write: one word at record offset 00h with only the state byte enabled (R198). -/
def stateEntry (base n : Nat) (r : SlotRec) (origin : Origin) : Entry :=
  ⟨.write, base + n * 32, 1,
    [dead, dead, live (BitVec.ofNat 8 (slotStateCode r.state)), dead, dead, dead, dead, dead], origin⟩

/-- Stamp writes for slots, in order, behind an entry numbered `index` (R173). -/
def stampEntries (s : State) (base : Nat) : Nat → List Nat → List Entry
  | _, [] => []
  | index, n :: ns => stampEntry base n index (slotAt s n) (.stamp n) :: stampEntries s base (index + 1) ns

/-! ### Moving the turn -/

/-- The rotation of the room arbiter (R175). -/
def nextRequester : Requester → Requester
  | .upstream => .deposit
  | .deposit => .sweep
  | .sweep => .control
  | .control => .loader
  | .loader => .upstream

def setTurn (q : Requester) (s : State) : State := { s with transit := { s.transit with turn := q } }

end Sys2Proof.Machine
end

