-- ==== Sys2Proof/Machine/Operands.lean ====
section
/-! DEFINITION. The operands of a command: the address, length and byte lanes of a host transaction, seen as the line
and the records it covers (section 9.1, R2, R26, R182), and the fields within a record (R3, R27, section 11). -/

namespace Sys2Proof.Machine

/-- The first of the three conditions of R165 that fails, in the order ALIGN, LENGTH, LINE. -/
def formFault (addr words : Nat) : Option FormFault :=
  if addr % 8 ≠ 0 then some .align
  else if words < 1 ∨ 16 < words then some .length
  else if 128 < addr % 128 + words * 8 then some .line
  else none

def txnAddr : HostTxn → Nat
  | .read r => r.addr.toNat
  | .write w => w.addr.toNat

def txnWords : HostTxn → Nat
  | .read r => r.words.toNat
  | .write w => w.words.toNat

def txnKind : HostTxn → LinkKind
  | .read _ => .read
  | .write _ => .write

/-- Bytes of a transaction. -/
def txnBytes (t : HostTxn) : Nat := 8 * txnWords t

/-- Lanes brought to a number of bytes; a byte the host presents no lane for is not enabled. -/
def fitLanes (n : Nat) (ls : List Lane) : List Lane := (ls ++ List.replicate n dead).take n

/-- Data brought to a number of bytes, short data filled with zeros (log 8). -/
def fitBytes (n : Nat) (bs : List Byte) : List Byte := (bs ++ zeros n).take n

/-- The lanes of a write. -/
def writeLanes (w : HostWrite) : List Lane := fitLanes (8 * w.words.toNat) w.lanes

/-- The write seen as its whole line, with nothing enabled outside it. -/
def lineLanes (w : HostWrite) : List Lane :=
  fitLanes 128 (List.replicate (w.addr.toNat % 128) dead ++ writeLanes w)

/-- The write's own part of its line. -/
def linePart (w : HostWrite) (line : List Lane) : List Lane :=
  (line.drop (w.addr.toNat % 128)).take (8 * w.words.toNat)

/-- The records of `size` bytes that the words of a transaction touch, numbered within the line (R2, R26). -/
def coveredRecords (addr words size : Nat) : List Nat :=
  (List.range (128 / size)).filter fun i =>
    decide (i * size < addr % 128 + words * 8) && decide (addr % 128 < i * size + size)

/-- The number in the line's first record of `size` bytes, from a directory's base. -/
def firstRecord (base addr size : Nat) : Nat := (addr - base) / 128 * (128 / size)

/-- The lanes of one record of a line. -/
def recordLanes (line : List Lane) (i size : Nat) : List Lane := (line.drop (i * size)).take size

/-- A line with one record's lanes in place. -/
def putRecord (line : List Lane) (i size : Nat) (r : List Lane) : List Lane :=
  line.take (i * size) ++ r ++ line.drop (i * size + size)

/-- Some byte of a field is enabled. -/
def anyEnabled (r : List Lane) (offset size : Nat) : Bool := ((r.drop offset).take size).any (·.enabled)

/-- Enabled bytes over held ones. -/
def mergeBytes : List Lane → List Byte → List Byte
  | l :: ls, b :: bs => (if l.enabled then l.data else b) :: mergeBytes ls bs
  | _, bs => bs

/-- The value formed from the enabled bytes and the shadow's present value of the others (R3, R27). -/
def mergedField (r : List Lane) (offset size held : Nat) : Nat :=
  leNat (mergeBytes ((r.drop offset).take size) (leBytes size held))

/-- A lane with its enable cleared and its data kept (R171). -/
def withheld (l : Lane) : Lane := ⟨false, l.data⟩

/-- Withhold the bytes of a field (R171). -/
def withhold (offset size : Nat) (r : List Lane) : List Lane :=
  r.take offset ++ ((r.drop offset).take size).map withheld ++ r.drop (offset + size)

/-- Replace the data of one byte and leave its enable (R171). -/
def replaceByte (offset : Nat) (b : Byte) (r : List Lane) : List Lane :=
  r.take offset ++ ((r.drop offset).take 1).map (fun l => ⟨l.enabled, b⟩) ++ r.drop (offset + 1)

/-- The data of lanes. -/
def laneData (r : List Lane) : List Byte := r.map (·.data)

/-- The forwarded form of a host write: the host's address, kind and length, with the lanes as judged (R171). -/
def hostWriteEntry (w : HostWrite) (lanes : List Lane) (adjusted : Bool) : Entry :=
  ⟨.write, w.addr.toNat, w.words.toNat, lanes, .host adjusted []⟩

/-- The forwarded form of a host read, with its overlay (R172). -/
def hostReadEntry (r : HostRead) (overlay : List (Option Byte)) : Entry :=
  ⟨.read, r.addr.toNat, r.words.toNat, [], .host false overlay⟩

/-- The part of a line's overlay that a read covers. -/
def overlayPart (r : HostRead) (line : List (Option Byte)) : List (Option Byte) :=
  (line.drop (r.addr.toNat % 128)).take (8 * r.words.toNat)

/-- Memory's data with the sampled values in place of the overlaid bytes (R172). -/
def overlaid : List (Option Byte) → List Byte → List Byte
  | some v :: os, _ :: bs => v :: overlaid os bs
  | none :: os, b :: bs => b :: overlaid os bs
  | _, bs => bs

/-- A locator's four bytes: first block in three, length in the fourth (section 11.1). -/
def locatorOf (n : Nat) : Locator := ⟨n % 16777216, n / 16777216⟩

def locatorNat (l : Locator) : Nat := l.first % 16777216 + 16777216 * l.length

/-- A locator at an offset of a record. -/
def locatorAt (bytes : List Byte) (offset : Nat) : Locator := locatorOf (fieldOf bytes offset 4)

/-- A run of blocks lies inside one region of a kind (R54, R105). -/
def insideOne (regions : List Region) (kind : RegionKind) (first length : Nat) : Bool :=
  regions.any fun r =>
    r.kind == kind && decide (r.base ≤ Config.blockBytes * first)
      && decide (Config.blockBytes * (first + length) ≤ r.base + r.size)

/-- A present locator is valid (R105). -/
def locatorFits (regions : List Region) (l : Locator) : Bool :=
  decide (1 ≤ l.length) && decide (l.length ≤ 128) && insideOne regions .greeting l.first l.length
    && decide (l.first + l.length ≤ Config.lastBlock + 1)

/-- Absent or valid (R28, R183, R198). -/
def locatorGood (regions : List Region) (l : Locator) : Bool := l.length == 0 || locatorFits regions l

end Sys2Proof.Machine
end

