-- ==== Sys2Proof/Machine/Flags.lean ====
section
/-! DEFINITION. The flags the part computes: full flag (R42), pins (R18), ATTN (R196), due slots (R95), dirty shelves
(R136), the watch match (R158), and the status record that shows them (R186). -/

namespace Sys2Proof.Machine

/-- The full flag: non-FREE count at or above capacity (R42). -/
def isFull (b : MailboxRec) : Bool := decide (b.capacity ≤ b.nonFree)

/-- The pin count of a slot: the LIVE broadcasts whose source slot it is (R18, R72). -/
def pinCount (s : State) (n : Nat) : Nat := s.broadcasts.toList.countP fun b => b.live && b.source == n

/-- ATTN: the latch holds a code or the ring holds an unread record (R196). -/
def attn (s : State) : Bool := s.reports.latch.isSome || decide (0 < unread s.reports)

/-- NEW, HEARD or SAVED: a message that is kept (R16, R95). -/
def isKept : SlotState → Bool
  | .new => true
  | .heard => true
  | .saved => true
  | _ => false

/-- A slot is due against a sweep day (R95). -/
def isDue (day : Nat) (r : SlotRec) : Bool :=
  isKept r.state && (match r.expiry with | .on d => decide (d ≤ day) | .absent _ => false)

/-- A shelf entry belongs in its link's dirty set (R136). -/
def isDirty (sh : Shelf) : Bool := sh.configured && sh.lastSent != some sh.composed

/-- The lamps that match the watch: set in the mask with a fault flag equal to the sense (R158). -/
def watchMatches (sh : Shelf) (faults : BitVec 48) : List Nat :=
  (List.range 48).filter fun k => sh.watchMask.getLsbD k && faults.getLsbD k == sh.watchFault

/-- The code word and the fields of the error latch, bytes 10h to 1Fh of the status record (section 11.4). An empty
latch has code 0000h and the none encodings; its slot and detail bytes mean nothing (log 11, 32). -/
def latchBytes (index : Nat) : Option LatchedError → List Byte
  | none => leBytes 2 0 ++ leBytes 2 0xffff ++ leBytes 2 (unmeantNat .latchSlot index 2) ++ [yesNo false]
      ++ leBytes 1 0xff ++ leBytes 8 (unmeantNat .latchDetail index 8)
  | some e => leBytes 2 (reportCode e.body) ++ leBytes 2 (e.mailbox.getD 0xffff)
      ++ leBytes 2 (optionalNat e.slot .latchSlot index 2) ++ [yesNo e.slot.isSome]
      ++ leBytes 1 (e.shelf.getD 0xff) ++ reportDetail e.body

/-- The 64 bytes of the status record (R186, section 11.4). -/
def statusBytes (index : Nat) (s : State) : List Byte :=
  leBytes 1 (partCode s.part) ++ [yesNo s.reports.dropped] ++ leBytes 2 s.reports.producer
    ++ leBytes 2 s.calendar.day ++ leBytes 2 s.calendar.minute ++ leBytes 1 s.calendar.second
    ++ [yesNo s.calendar.isSet, yesNo s.sweep.active] ++ zeros 1 ++ leBytes 4 s.sweep.cursor
    ++ latchBytes index s.reports.latch
    ++ leBytes 2 s.counts.tables ++ leBytes 2 s.counts.boxes ++ leBytes 4 s.counts.slots ++ zeros 24

end Sys2Proof.Machine
end

