-- ==== Sys2Proof/Machine/Composer.lean ====
section
/-! DEFINITION. The Lamp Composer: composed images (R131, R132), last-sent images and dirty sets (R136), and the choice
of the next shelf (R137). Every change of a shelf entry goes through `putShelf`, which judges its membership afresh. -/

namespace Sys2Proof.Machine

/-- The link of a shelf entry (section 7.2). -/
def linkOf (e : Nat) : Link := if e < 96 then .a else .b

/-- The shelf entry of an address on a link. -/
def entryOf (k : Link) (addr : Nat) : Nat :=
  match k with
  | .a => addr
  | .b => 96 + addr

def linkState (l : Lamps) : Link → LinkState
  | .a => l.linkA
  | .b => l.linkB

def putLinkState (k : Link) (x : LinkState) (l : Lamps) : Lamps :=
  match k with
  | .a => { l with linkA := x }
  | .b => { l with linkB := x }

def shelfOf (l : Lamps) (e : Nat) : Shelf := l.shelves[e]?.getD Shelf.empty

def shelfAt (s : State) (e : Nat) : Shelf := shelfOf s.lamps e

/-- Insert an address into a rising list. -/
def insertRising (a : Nat) : List Nat → List Nat
  | [] => [a]
  | b :: bs => if a < b then a :: b :: bs else if a = b then b :: bs else b :: insertRising a bs

/-- Membership of an address judged afresh (R136). -/
def judgeMember (a : Nat) (dirty : Bool) (set : List Nat) : List Nat :=
  if dirty then insertRising a set else set.filter (· != a)

/-- A shelf entry takes a new record and its membership is judged (R136); there are 192 entries. -/
def putShelf (e : Nat) (sh : Shelf) (l : Lamps) : Lamps :=
  if e < 192 then
    putLinkState (linkOf e)
      { linkState l (linkOf e) with dirty := judgeMember (e % 96) (isDirty sh) (linkState l (linkOf e)).dirty }
      { l with shelves := l.shelves.setIfInBounds e sh }
  else l

def updateShelf (e : Nat) (f : Shelf → Shelf) (s : State) : State :=
  { s with lamps := putShelf e (f (shelfAt s e)) s.lamps }

/-- PRUN is low and the loaded policy is DARK (R131 step 1). -/
def isDark (s : State) : Bool := !s.prun && s.control.header.dark

/-- The composed mode of one lamp (R131). -/
def composedMode (dark : Bool) (sh : Shelf) (k : Fin 48) : LampMode :=
  if dark then .off
  else if sh.sourceSelect.getLsbD k.val then sh.override[k]
  else (sh.mapped[k]).getD .off

/-- The composed image of an entry (R131). -/
def compose (dark : Bool) (sh : Shelf) : Image := Vector.ofFn (composedMode dark sh)

def recomposed (dark : Bool) (sh : Shelf) : Shelf := { sh with composed := compose dark sh }

/-- The Lamp Composer is told the mode of a position, or that it has no mailbox (R35, R47, R132). -/
def mapLamp (position : Nat) (mode : Option LampMode) (s : State) : State :=
  updateShelf (position / 48)
    (fun sh => recomposed (isDark s) { sh with mapped := sh.mapped.setIfInBounds (position % 48) mode }) s

/-- Every position of every entry is recomposed (R133). -/
def recomposeAll (s : State) : State :=
  forEach (fun e s => updateShelf e (recomposed (isDark s)) s) (List.range 192) s

/-- The addresses in the order the composer searches them (R137). -/
def searchOrder (cursor : Nat) : List Nat :=
  (List.range 96).filter (fun a => cursor < a) ++ (List.range 96).filter (fun a => a ≤ cursor)

/-- The composer's answer to a request for the next shelf of a link (R137). -/
def nextDirty (l : Lamps) (k : Link) : Option Nat :=
  (searchOrder (linkState l k).cursor).find? fun a =>
    (linkState l k).dirty.contains a && (shelfOf l (entryOf k a)).link == .online

end Sys2Proof.Machine
end

