-- ==== Sys2Proof/Machine/Boxes.lean ====
section
/-! DEFINITION. What the Directory Monitor derives for a mailbox: counts (R40), full flag (R42), play queues (R43 to
R45) and lamp mode (R47, R128). -/

namespace Sys2Proof.Machine

/-- The lamp position a mailbox holds (R35); FFh in both bytes is the absent encoding (R198). -/
def lampAbsent (b : MailboxRec) : Bool := b.lampShelf == 255 && b.lampNumber == 255

def lampPosition (b : MailboxRec) : Option Nat :=
  if lampAbsent b then none else some (b.lampShelf * 48 + b.lampNumber)

/-- The derived lamp mode (R128). -/
def derivedMode (c : ClassEntry) (b : MailboxRec) : LampMode :=
  if b.status ≠ .active then .off
  else if 0 < b.urgentNew ∨ 0 < b.urgentUnheard then c.urgentMode
  else if 0 < b.new ∨ 0 < b.unheard then c.pendingMode
  else if b.full then c.fullMode
  else .off

/-- The record with its full flag and lamp mode derived afresh (R42, R47). -/
def derived (s : State) (b : MailboxRec) : MailboxRec :=
  { b with full := isFull b, mode := derivedMode (classAt s b.cls) { b with full := isFull b } }

/-- A mailbox takes a new record: its flag and mode are derived afresh, and a change of mode is passed to the Lamp
Composer when the box holds a position (R47). -/
def settleBox (m : Nat) (b : MailboxRec) (s : State) : State :=
  match lampPosition b with
  | none => putBox m (derived s b) s
  | some p =>
      if (derived s b).mode = b.mode then putBox m (derived s b) s
      else mapLamp p (some (derived s b).mode) (putBox m (derived s b) s)

def updateBox (m : Nat) (f : MailboxRec → MailboxRec) (s : State) : State := settleBox m (f (boxAt s m)) s

/-! ### Counts -/

def oneIf (b : Bool) : Nat := if b then 1 else 0

def isSpent : SlotState → Bool
  | .discarded => true
  | .expired => true
  | _ => false

/-- The counts with one slot counted in (R40). -/
def countIn (r : SlotRec) (b : MailboxRec) : MailboxRec :=
  { b with
    nonFree := b.nonFree + oneIf (r.state != .free)
    new := b.new + oneIf (r.state == .new)
    urgentNew := b.urgentNew + oneIf (r.state == .new && r.urgent)
    heard := b.heard + oneIf (r.state == .heard)
    saved := b.saved + oneIf (r.state == .saved)
    spent := b.spent + oneIf (isSpent r.state) }

/-- The counts with one slot counted out (R40). -/
def countOut (r : SlotRec) (b : MailboxRec) : MailboxRec :=
  { b with
    nonFree := b.nonFree - oneIf (r.state != .free)
    new := b.new - oneIf (r.state == .new)
    urgentNew := b.urgentNew - oneIf (r.state == .new && r.urgent)
    heard := b.heard - oneIf (r.state == .heard)
    saved := b.saved - oneIf (r.state == .saved)
    spent := b.spent - oneIf (isSpent r.state) }

/-! ### Queues -/

/-- Deposit stamp ascending, then slot number ascending; the clock-unset flag takes no part (R43, section 1.1). -/
def stampedBefore (a : Stamp) (i : Nat) (b : Stamp) (j : Nat) : Bool :=
  if a.day ≠ b.day then decide (a.day < b.day)
  else if a.minute ≠ b.minute then decide (a.minute < b.minute)
  else if a.second ≠ b.second then decide (a.second < b.second)
  else decide (i < j)

/-- Place in the Unheard queue: urgent first, then stamp, then slot (R43). -/
def unheardBefore (a : SlotRec) (i : Nat) (b : SlotRec) (j : Nat) : Bool :=
  if a.urgent ≠ b.urgent then a.urgent else stampedBefore a.stamp i b.stamp j

/-- Place in the Kept queue: stamp, then slot (R44). -/
def keptBefore (a : SlotRec) (i : Nat) (b : SlotRec) (j : Nat) : Bool := stampedBefore a.stamp i b.stamp j

/-- A slot joins a queue ahead of the first slot that comes after it (R43, R44). -/
def joinQueue (before : SlotRec → Nat → SlotRec → Nat → Bool) (s : State) (n : Nat) (r : SlotRec) :
    List Nat → List Nat
  | [] => [n]
  | j :: q => if before r n (slotAt s j) j then n :: j :: q else j :: joinQueue before s n r q

def leaveQueue (n : Nat) (q : List Nat) : List Nat := q.filter (· != n)

/-- HEARD or SAVED: held in the Kept queue (section 1.2). -/
def inKept : SlotState → Bool
  | .heard => true
  | .saved => true
  | _ => false

/-- The Unheard queue after a slot's record changes (R43, R45). -/
def requeueUnheard (s : State) (n : Nat) (old r : SlotRec) (q : List Nat) : List Nat :=
  if old.state == .new && r.state == .new && old.urgent == r.urgent then q
  else if r.state == .new then joinQueue unheardBefore s n r (leaveQueue n q)
  else if old.state == .new then leaveQueue n q
  else q

/-- The Kept queue after a slot's record changes; a move between HEARD and SAVED keeps its place (R15, R44). -/
def requeueKept (s : State) (n : Nat) (old r : SlotRec) (q : List Nat) : List Nat :=
  if inKept old.state && inKept r.state then q
  else if inKept r.state then joinQueue keptBefore s n r (leaveQueue n q)
  else if inKept old.state then leaveQueue n q
  else q

/-- The owner's record after a slot's record changes from `old` to `r` (R40, R43, R44). -/
def ownerAfter (s : State) (n : Nat) (old r : SlotRec) (b : MailboxRec) : MailboxRec :=
  let b' := countIn r (countOut old b)
  { b' with
    unheardQueue := requeueUnheard s n old r b.unheardQueue
    keptQueue := requeueKept s n old r b.keptQueue }

/-- A slot takes a new record, and its owner's counts, queues, flag and lamp mode follow at once (R5, R40). A slot
that is FREE before and after touches no mailbox. -/
def changeSlot (n : Nat) (r : SlotRec) (s : State) : State :=
  if (slotAt s n).state = .free ∧ r.state = .free then putSlot n r s
  else settleBox r.owner (ownerAfter s n (slotAt s n) r (boxAt s r.owner)) (putSlot n r s)

/-- The slot behind one in a queue (R24). -/
def behind (n : Nat) : List Nat → Option Nat
  | [] => none
  | j :: q => if j = n then q.head? else behind n q

/-- Next in queue of a slot (R4, R24). -/
def nextInQueue (s : State) (n : Nat) : Option Nat :=
  match (slotAt s n).state with
  | .new => behind n (boxAt s (slotAt s n).owner).unheardQueue
  | .heard => behind n (boxAt s (slotAt s n).owner).keptQueue
  | .saved => behind n (boxAt s (slotAt s n).owner).keptQueue
  | _ => none

end Sys2Proof.Machine
end

