-- ==== Sys2Proof/Machine/Broadcasts.lean ====
section
/-! DEFINITION. The Broadcast Unit: posting (R74, R75), departures (R38, R32, R78), endings (R79 to R81). -/

namespace Sys2Proof.Machine

/-- A broadcast is added to a member's counts (R41). -/
def countBroadcast (urgent : Bool) (b : MailboxRec) : MailboxRec :=
  { b with unheard := b.unheard + 1, urgentUnheard := b.urgentUnheard + oneIf urgent }

/-- A broadcast is taken from a member's counts (R41). -/
def uncountBroadcast (urgent : Bool) (b : MailboxRec) : MailboxRec :=
  { b with unheard := b.unheard - 1, urgentUnheard := b.urgentUnheard - oneIf urgent }

/-- A LIVE broadcast ends (R79): the members left are counted out, the entry becomes IDLE with an empty set (and its
pin falls with it), and BROADCAST_ENDED is made. -/
def endBroadcast (n : Nat) (reason : EndReason) (mailbox : Option Nat) (s : State) : State :=
  let b := broadcastAt s n
  let s' := forEach (fun m => updateBox m (uncountBroadcast b.urgent)) b.pending s
  makeReport (.broadcastEnded (n + 1) reason b.pending.length) mailbox (some b.source) none none
    (putBroadcast n { b with live := false, pending := [] } s')

/-- A mailbox leaves the pending set of a LIVE broadcast that holds it, and the broadcast ends by all-heard if the set
is left empty; otherwise nothing happens (R38, R78). -/
def leaveBroadcast (n m : Nat) (s : State) : State :=
  let b := broadcastAt s n
  if b.live ∧ m ∈ b.pending then
    let s' := updateBox m (uncountBroadcast b.urgent)
      (putBroadcast n { b with pending := b.pending.filter (· != m) } s)
    if (broadcastAt s' n).pending = [] then endBroadcast n .allHeard (some m) s' else s'
  else s

/-- The removal claim of an UNASSIGNED write: the box leaves every set that holds it and its counts become zero
(R32). The entries are gone through in ascending order, and a broadcast left empty ends before the next is left; R32 and
R78 state no order, so it is the model's choice (log 38). -/
def removeMember (m : Nat) (s : State) : State :=
  updateBox m (fun b => { b with unheard := 0, urgentUnheard := 0 })
    (forEach (fun n => leaveBroadcast n m) (List.range 16) s)

/-- The mailboxes a POST places in the set: ACTIVE, of a class in the mask, the source's owner excluded (R75). An
unlisted mailbox is UNASSIGNED. -/
def postMembers (s : State) (mask : BitVec 8) (owner : Nat) : List Nat :=
  (s.boxes.filter fun e =>
    e.2.status == .active && mask.getLsbD e.2.cls && e.1 != owner).map (·.1)

/-- The first check of R74 that refuses a POST. -/
def postRefusal (s : State) (number : Nat) : Option CommandOutcome :=
  if number < 1 ∨ 16 < number ∨ (broadcastAt s (number - 1)).present = false then some .badArgument
  else if (broadcastAt s (number - 1)).live then some .broadcastLive
  else if !isKept (slotAt s (broadcastAt s (number - 1)).source).state then some .sourceState
  else none

/-- A POST that passes its checks, before its COMMAND_DONE (R75). -/
def postBroadcast (n : Nat) (members : List Nat) (s : State) : State :=
  let b := broadcastAt s n
  let s' := forEach (fun m => updateBox m (countBroadcast b.urgent)) members
    (putBroadcast n { b with live := true, pending := members } s)
  if members = [] then endBroadcast n .allHeard none s' else s'

/-- BROADCAST_POST (R74, R75). -/
def commandPost (c : Command) (number : Nat) (s : State) : State :=
  match postRefusal s number with
  | some refusal => commandDone c refusal 0 s
  | none =>
      let b := broadcastAt s (number - 1)
      let members := postMembers s b.mask (slotAt s b.source).owner
      commandDone c .accepted members.length (postBroadcast (number - 1) members s)

/-- BROADCAST_WITHDRAW (R80). -/
def commandWithdraw (c : Command) (number : Nat) (s : State) : State :=
  if number < 1 ∨ 16 < number then commandDone c .badArgument 0 s
  else if (broadcastAt s (number - 1)).live then
    commandDone c .accepted 0 (endBroadcast (number - 1) .withdrawn none s)
  else commandDone c .notLive 0 s

/-- A LIVE broadcast whose end day is present and earlier than the sweep day (R81). -/
def pastEnd (day : Nat) (b : Broadcast) : Bool :=
  b.live && (match b.endDay with | some d => decide (d < day) | none => false)

/-- The end-day claim: the entries examined in ascending order (R81). -/
def endDayClaim (day : Nat) (s : State) : State :=
  forEach (fun n s => if pastEnd day (broadcastAt s n) then endBroadcast n .endDay none s else s) (List.range 16) s

/-- The number of broadcasts an end-day claim ends (R81). -/
def endDayCount (day : Nat) (s : State) : Nat := s.broadcasts.toList.countP (pastEnd day)

end Sys2Proof.Machine
end

