-- ==== Sys2Proof/Machine/Deposits.lean ====
section
/-! DEFINITION. The Deposit Unit: claim checks 3 to 5 (R54), contexts (R55, R66), audio writes (R56 to R60), the idle
timer (R61, R62) and the verdict (R64). -/

namespace Sys2Proof.Machine

/-- The meter at zero (R10). -/
def Level.zero : Level := ⟨0, 0, 0⟩

/-- Two runs of blocks share a block (R54). -/
def sharesBlock (first length first' length' : Nat) : Bool :=
  decide (first < first' + length') && decide (first' < first + length)

/-- The extent holds a block (R56). -/
def holdsBlock (block : Nat) (c : Context) : Bool := decide (c.first ≤ block) && decide (block < c.first + c.length)

/-- The lowest-numbered in-use context whose extent shares blocks with a run (R54). -/
def clashingContext (s : State) (first length : Nat) : Option Context :=
  (s.deposit.contexts.toList.filterMap id).find? fun c => sharesBlock first length c.first c.length

/-- The lowest-numbered FREE context (R55). -/
def freeContext (s : State) : Option Nat := lowest Option.isNone s.deposit.contexts.toList

/-- The context a claim is given (R55). -/
def claimedContext (s : State) (n : Nat) (r : SlotRec) : Context where
  slot := n
  owner := r.owner
  source := r.source
  first := r.firstBlock
  length := (classOf s r.owner).maxDeposit
  state := .opened (s.now + secondsToCycles (classOf s r.owner).idle)
  idle := (classOf s r.owner).idle
  level := Level.zero

/-- The claim checks in order (R9, R54): the report of the first that fails, or the context number. -/
def claimJudgement (s : State) (r : SlotRec) : Except ReportBody Nat :=
  let box := boxAt s r.owner
  let length := (classOf s r.owner).maxDeposit
  if box.status ≠ .active then .error (.mailboxClosed box.status)
  else if box.capacity ≤ box.nonFree then .error (.mailboxFull box.capacity)
  else if insideOne s.transit.regions .audio r.firstBlock length = false
      ∨ Config.lastBlock + 1 < r.firstBlock + length then .error (.extentOutside r.firstBlock)
  else match clashingContext s r.firstBlock length with
    | some c => .error (.extentClash c.slot)
    | none =>
      match freeContext s with
      | none => .error .noChannel
      | some k => .ok k

/-- A context is released: it becomes FREE and a claim waiting for it is withdrawn (R66). -/
def releaseContext (k : Nat) (s : State) : State :=
  { s with deposit := { s.deposit with
      contexts := s.deposit.contexts.setIfInBounds k none
      claims := s.deposit.claims.filter (·.context != k) } }

/-- The context of a slot (R1). -/
def slotContext (s : State) (r : SlotRec) : Option Context :=
  match r.context with
  | some k => contextAt s k
  | none => none

/-- The meter of a slot's context. -/
def slotMeter (s : State) (r : SlotRec) : Level := ((slotContext s r).map (·.level)).getD Level.zero

/-- Release of the context a slot names. -/
def releaseSlot (r : SlotRec) (s : State) : State :=
  match r.context with
  | some k => releaseContext k s
  | none => s

/-- The verdict of a commit is SILENT (R64). -/
def isSilent (minimum voiced : Nat) : Bool := decide (0 < minimum) && decide (voiced < minimum)

/-! ### Audio -/

/-- Offset, gain with truncation toward zero (R57 steps 1 and 2). -/
def scaled (cal : Calibration) (raw : Int) : Int := Int.tdiv ((raw + cal.offset) * cal.gain) 256

/-- The clamp (R57 step 3). -/
def clamped (x : Int) : Int := if x < -32768 then -32768 else if 32767 < x then 32767 else x

/-- The magnitude, with −32,768 taken as 32,767 (R59). -/
def magnitude (x : Int) : Nat := if 32767 < x.natAbs then 32767 else x.natAbs

/-- A count that stays at 65,535 (R59). -/
def saturated (n : Nat) : Nat := if 65535 < n then 65535 else n

/-- The meter after one processed sample (R59). -/
def meter (cal : Calibration) (raw : Int) (v : Level) : Level where
  peak := if v.peak < magnitude (clamped (scaled cal raw)) then magnitude (clamped (scaled cal raw)) else v.peak
  voiced := saturated (v.voiced + oneIf (decide (cal.threshold ≤ magnitude (clamped (scaled cal raw)))))
  clipped := saturated (v.clipped + oneIf (clamped (scaled cal raw) != scaled cal raw))

/-- The raw sample of two bytes. -/
def rawSample (low high : Byte) : Int := (high ++ low : BitVec 16).toInt

/-- The lanes of one processed sample (R57 step 4). -/
def sampleLanes (x : Int) : List Lane := (leBytes 2 (BitVec.ofInt 16 x).toNat).map live

/-- The samples of a write in ascending address order: those with both bytes enabled are processed and metered, the
others pass (R57, R58). -/
def processSamples (cal : Calibration) : List Lane → Level → List Lane × Level
  | a :: b :: rest, v =>
      if a.enabled && b.enabled then
        let raw := rawSample a.data b.data
        let (out, v') := processSamples cal rest (meter cal raw v)
        (sampleLanes (clamped (scaled cal raw)) ++ out, v')
      else
        let (out, v') := processSamples cal rest v
        (a :: b :: out, v')
  | ls, v => (ls, v)

/-- The in-use context whose extent holds a block (R56). -/
def matchContext (s : State) (block : Nat) : Option Nat :=
  lowest (fun c => match c with | some c => holdsBlock block c | none => false) s.deposit.contexts.toList

/-- An OPEN context's deadline is set afresh; a LAPSED one keeps none (R61, R62). -/
def restarted (s : State) (c : Context) : Context :=
  match c.state with
  | .opened _ =>
      { c with state := .opened (s.now + secondsToCycles (classOf s c.owner).idle), idle := (classOf s c.owner).idle }
  | .lapsed => c

/-- A write that matches a context: its samples processed, its meter and timer taken (R57 to R61). -/
def audioMatched (k : Nat) (c : Context) (w : HostWrite) (s : State) : State :=
  let (lanes, level) := processSamples (calibrationAt s c.source) (writeLanes w) c.level
  place [hostWriteEntry w lanes false] (putContext k (some { restarted s c with level := level }) s)

/-- An AUDIO write that no latched piece refuses (R56). -/
def audioWrite (w : HostWrite) (s : State) : State :=
  match matchContext s (w.addr.toNat / Config.blockBytes) with
  | some k =>
      match contextAt s k with
      | some c => audioMatched k c w s
      | none => place [hostWriteEntry w (writeLanes w) false] s
  | none => place [hostWriteEntry w (writeLanes w) false] s

/-! ### The idle timer -/

/-- A timeout claim waits behind the others (R62, R174). -/
def addClaim (claim : TimeoutClaim) (s : State) : State :=
  { s with deposit := { s.deposit with claims := s.deposit.claims ++ [claim] } }

/-- An OPEN context whose deadline is reached becomes LAPSED and its timeout claim waits (R62). -/
def lapseContext (k : Nat) (s : State) : State :=
  match contextAt s k with
  | some c =>
      match c.state with
      | .opened deadline =>
          addClaim ⟨k, c.slot⟩ (putContext k (some { c with state := .lapsed }) (reachMoment deadline s))
      | .lapsed => s
  | none => s

/-- A timeout claim that is taken (R14, R63). -/
def timeoutTaken (claim : TimeoutClaim) (s : State) : State :=
  let r := slotAt s claim.slot
  if r.state = .recording ∧ r.context = some claim.context then
    let level := slotMeter s r
    let idle := ((slotContext s r).map (·.idle)).getD 0
    let r' := { r with state := .discarded, level := level, verdict := .timeout, context := none }
    let s' := changeSlot claim.slot r' (releaseContext claim.context s)
    let base := regionBase s .slotDir
    makeReport (.depositTimeout level.voiced idle) (some r.owner) (some claim.slot) none none
      (place [stampEntry base claim.slot s.transit.joined r' (.stamp claim.slot),
              stateEntry base claim.slot r' (.slotState claim.slot)] s')
  else s

end Sys2Proof.Machine
end

