-- ==== Sys2Proof/Machine/Slots.lean ====
section
/-! DEFINITION. Host writes and reads of the slot directory (R2 to R17, R24) and the sweep's visit (R19). -/

namespace Sys2Proof.Machine

/-- A slot record being judged: the state so far, the record's 32 lanes, the causes to report in field order (R8), and
whether a stamp write is caused. -/
structure SlotWork where
  state  : State
  lanes  : List Lane
  causes : List ReportBody
  stamp  : Bool
deriving DecidableEq, Repr

/-- A field refused: its bytes withheld, one cause (R8). -/
def refuseBytes (offset size : Nat) (cause : ReportBody) (j : SlotWork) : SlotWork :=
  { j with lanes := withhold offset size j.lanes, causes := j.causes ++ [cause] }

/-- A field of step 1 of R7: the range check first, then the FREE check. -/
def judgeIdentity (n offset size held : Nat) (inRange : Nat → Bool) (rangeCause stateCause : ReportBody)
    (put : Nat → SlotRec → SlotRec) (j : SlotWork) : SlotWork :=
  let v := mergedField j.lanes offset size held
  if anyEnabled j.lanes offset size = false ∨ v = held then j
  else if inRange v = false then refuseBytes offset size rangeCause j
  else if (slotAt j.state n).state ≠ .free then refuseBytes offset size stateCause j
  else { j with state := changeSlot n (put v (slotAt j.state n)) j.state }

def judgeOwner (n : Nat) (j : SlotWork) : SlotWork :=
  judgeIdentity n 0 2 (slotAt j.state n).owner (fun v => decide (v ≤ 8191)) (.badOwner .range) (.badOwner .notFree)
    (fun v r => { r with owner := v }) j

def judgeSource (n : Nat) (j : SlotWork) : SlotWork :=
  judgeIdentity n 4 1 (slotAt j.state n).source (fun v => decide (v ≤ 3)) (.fieldRefused .source)
    (.fieldRefused .source) (fun v r => { r with source := v }) j

def judgeFirstBlock (n : Nat) (j : SlotWork) : SlotWork :=
  judgeIdentity n 5 3 (slotAt j.state n).firstBlock (fun _ => true) (.fieldRefused .audioBlock)
    (.fieldRefused .audioBlock) (fun v r => { r with firstBlock := v }) j

/-- Urgent: step 2 of R7. -/
def judgeUrgent (n : Nat) (j : SlotWork) : SlotWork :=
  let r := slotAt j.state n
  if anyEnabled j.lanes 3 1 = false then j
  else match flagOf (byteOf (laneData j.lanes) 3) with
    | none => refuseBytes 3 1 (.fieldRefused .urgent) j
    | some u => if u = r.urgent then j else { j with state := changeSlot n { r with urgent := u } j.state }

/-- The deposit stamp of a claim (R10): day 0 while the calendar is unset (R91). -/
def claimStamp (s : State) : Stamp :=
  ⟨if s.calendar.isSet then s.calendar.day else 0, s.calendar.minute, s.calendar.second, !s.calendar.isSet⟩

/-- Expiry on entry to a kept state (R16). -/
def expiryFor (s : State) (retention : Nat) : Expiry :=
  if retention = 0 ∨ s.calendar.isSet = false then .absent none
  else .on (if 65535 < s.calendar.day + retention then 65535 else s.calendar.day + retention)

/-- The retention of a class for a kept state (section 5.3). -/
def retentionFor (c : ClassEntry) : SlotState → Nat
  | .new => c.retainNew
  | .heard => c.retainHeard
  | .saved => c.retainSaved
  | _ => 0

/-- Claim: R9, R10. -/
def slotClaim (n : Nat) (j : SlotWork) : SlotWork :=
  let r := slotAt j.state n
  match claimJudgement j.state r with
  | .error cause => refuseBytes 2 1 cause j
  | .ok k =>
      let r' := { r with
        state := .recording
        stamp := claimStamp j.state
        expiry := .absent none
        level := Level.zero
        verdict := .none
        context := some k }
      { j with
        state := changeSlot n r' (putContext k (some (claimedContext j.state n r)) j.state)
        stamp := true }

/-- Commit: R11 when KEPT, R12 when SILENT. -/
def slotCommit (n : Nat) (j : SlotWork) : SlotWork :=
  let r := slotAt j.state n
  let level := slotMeter j.state r
  let c := classOf j.state r.owner
  if isSilent c.minVoiced level.voiced then
    { j with
      state := changeSlot n { r with state := .discarded, level := level, verdict := .silent, context := none }
        (releaseSlot r j.state)
      lanes := replaceByte 2 (BitVec.ofNat 8 (slotStateCode .discarded)) j.lanes
      causes := j.causes ++ [.depositSilent level.voiced c.minVoiced]
      stamp := true }
  else
    { j with
      state := changeSlot n { r with
          state := .new, level := level, verdict := .kept, expiry := expiryFor j.state c.retainNew, context := none }
        (releaseSlot r j.state)
      stamp := true }

/-- Abandon: R13. -/
def slotAbandon (n : Nat) (j : SlotWork) : SlotWork :=
  let r := slotAt j.state n
  { j with state := changeSlot n { r with state := .free, context := none } (releaseSlot r j.state) }

/-- Move among NEW, HEARD and SAVED: R15, R16. -/
def slotMove (n : Nat) (target : SlotState) (j : SlotWork) : SlotWork :=
  let r := slotAt j.state n
  { j with
    state := changeSlot n
      { r with state := target, expiry := expiryFor j.state (retentionFor (classOf j.state r.owner) target) } j.state
    stamp := true }

/-- Delete: R17. -/
def slotDelete (n : Nat) (j : SlotWork) : SlotWork :=
  let r := slotAt j.state n
  if pinCount j.state n = 0 then { j with state := changeSlot n { r with state := .free } j.state }
  else refuseBytes 2 1 (.broadcastPinned (pinCount j.state n)) j

/-- A state write that R5 does not accept: LATE_COMMIT or BAD_TRANSITION (R6). -/
def slotRefusal (n code : Nat) (j : SlotWork) : SlotWork :=
  let r := slotAt j.state n
  if slotStateOf code = some .new ∧ r.state = .discarded ∧ (r.verdict = .timeout ∨ r.verdict = .load) then
    refuseBytes 2 1 (.lateCommit r.verdict) j
  else refuseBytes 2 1 (.badTransition r.state code) j

/-- The transitions of R5. -/
def slotTransition (n code : Nat) (j : SlotWork) : SlotWork :=
  match (slotAt j.state n).state, slotStateOf code with
  | .free, some .recording => slotClaim n j
  | .recording, some .new => slotCommit n j
  | .recording, some .free => slotAbandon n j
  | .new, some .heard => slotMove n .heard j
  | .new, some .saved => slotMove n .saved j
  | .heard, some .saved => slotMove n .saved j
  | .heard, some .new => slotMove n .new j
  | .saved, some .new => slotMove n .new j
  | .saved, some .heard => slotMove n .heard j
  | .new, some .free => slotDelete n j
  | .heard, some .free => slotDelete n j
  | .saved, some .free => slotDelete n j
  | .discarded, some .free => slotDelete n j
  | .expired, some .free => slotDelete n j
  | _, _ => slotRefusal n code j

/-- State: step 3 of R7. -/
def judgeState (n : Nat) (j : SlotWork) : SlotWork :=
  let code := byteOf (laneData j.lanes) 2
  if anyEnabled j.lanes 2 1 = false ∨ code = slotStateCode (slotAt j.state n).state then j
  else slotTransition n code j

/-- Stamped and derived bytes are withheld without report (R3). -/
def withholdOwn (j : SlotWork) : SlotWork :=
  { j with lanes := withhold 28 4 (withhold 8 16 j.lanes) }

/-- One record of a host write, its reports made (R7, R8). -/
def judgeSlot (n : Nat) (lanes : List Lane) (s : State) : SlotWork :=
  let j := judgeState n (judgeUrgent n (judgeFirstBlock n (judgeSource n (judgeOwner n
    (withholdOwn ⟨s, lanes, [], false⟩)))))
  { j with state := reportSlot n (slotAt j.state n).owner j.causes j.state }

/-- A directory write being judged record by record: the state so far, the line's lanes, whether a reported cause
withheld or replaced bytes, and the slots to stamp. -/
structure LineWork where
  state    : State
  line     : List Lane
  adjusted : Bool
  stamps   : List Nat
deriving DecidableEq, Repr

/-- The slot records of a write in ascending order (R2). -/
def judgeSlots (first : Nat) : List Nat → LineWork → LineWork
  | [], x => x
  | i :: is, x =>
      let j := judgeSlot (first + i) (recordLanes x.line i 32) x.state
      judgeSlots first is
        ⟨j.state, putRecord x.line i 32 j.lanes, x.adjusted || !j.causes.isEmpty,
          if j.stamp then x.stamps ++ [first + i] else x.stamps⟩

/-- A SLOT_DIR write: judged, then forwarded with its stamp writes behind it as one group (R2, R21, R173). -/
def slotDirWrite (base : Nat) (w : HostWrite) (s : State) : State :=
  let x := judgeSlots (firstRecord base w.addr.toNat 32) (coveredRecords w.addr.toNat w.words.toNat 32)
    ⟨s, lineLanes w, false, []⟩
  place (hostWriteEntry w (linePart w x.line) x.adjusted
    :: stampEntries x.state base (x.state.transit.joined + 1) x.stamps) x.state

/-- The overlay of one slot record (R4). -/
def slotOverlay (index : Nat) (s : State) (n : Nat) : List (Option Byte) :=
  List.replicate 8 none ++ (stampedBytes n index (slotAt s n)).map some ++ List.replicate 4 none
    ++ (leBytes 2 (optionalNat (nextInQueue s n) (.nextInQueue n) index 2) ++ [yesNo (nextInQueue s n).isSome]
        ++ leBytes 1 (pinCount s n)).map some

/-- A SLOT_DIR read: forwarded with its overlay sampled (R4, R172). -/
def slotDirRead (base : Nat) (r : HostRead) (s : State) : State :=
  let first := firstRecord base r.addr.toNat 32
  place [hostReadEntry r (overlayPart r
    ((List.range 4).flatMap fun i => slotOverlay s.transit.joined s (first + i)))] s

/-- What a sweep visit hands back (R100). -/
inductive VisitResult where
  | expired | skipped | nothing
deriving DecidableEq, Repr

/-- The judgement of a visit (R19, R95). -/
def visitJudgement (s : State) (day n : Nat) : VisitResult :=
  if isDue day (slotAt s n) then (if pinCount s n = 0 then .expired else .skipped) else .nothing

/-- An expired visit: the slot becomes EXPIRED and its state write is queued on its own (R19). -/
def expireSlot (n : Nat) (s : State) : State :=
  let r := { slotAt s n with state := .expired }
  place [stateEntry (regionBase s .slotDir) n r (.slotState n)] (changeSlot n r s)

end Sys2Proof.Machine
end

