-- ==== Sys2Proof/Machine/Calendars.lean ====
section
/-! DEFINITION. The calendar (R87 to R91) and the retention sweep (R96 to R103). -/

namespace Sys2Proof.Machine

/-- The day after the passage of midnight; it stays at 65,535 (R87). -/
def dayAfter (day : Nat) : Nat := if day < 65535 then day + 1 else 65535

/-- The calendar with its second advanced (R87). -/
def advanced (c : Calendar) : Calendar :=
  if c.second < 59 then { c with fraction := 0, second := c.second + 1 }
  else if c.minute < 1439 then { c with fraction := 0, second := 0, minute := c.minute + 1 }
  else { c with fraction := 0, second := 0, minute := 0, day := dayAfter c.day }

/-- A sweep starts (R99). -/
def startSweep (s : State) : State :=
  { s with sweep := ⟨true, .visiting, if s.calendar.isSet then s.calendar.day else 0, 0, 0, 0, 0⟩ }

/-- The passage into second 0 of the sweep minute starts a sweep (R97), judged on the calendar just advanced. -/
def startsDaily (s : State) : Bool :=
  s.part == .running && s.calendar.isSet && s.calendar.second == 0
    && s.control.header.sweepMinute == some s.calendar.minute && !s.sweep.active

/-- One advance of the second (R87, R97); the calendar does not advance while RESET is held (R88). -/
def calendarAdvance (s : State) : State :=
  if s.part = .reset then s
  else
    let s' := { s with calendar := advanced s.calendar }
    if startsDaily s' then startSweep s' else s'

/-- CLOCK_SET (R89): the argument carries the day in four bytes, the minute in two, the second in one. -/
def commandClock (c : Command) (s : State) : State :=
  let day := fieldOf c.argument 0 4
  let minute := fieldOf c.argument 4 2
  let second := fieldOf c.argument 6 1
  if 65535 < day ∨ 1439 < minute ∨ 59 < second then commandDone c .badArgument 0 s
  else commandDone c .accepted 0 { s with calendar := ⟨0, second, minute, day, true⟩ }

/-- SWEEP_NOW (R98). -/
def commandSweep (c : Command) (s : State) : State :=
  if s.sweep.active then commandDone c .sweepBusy 0 s else commandDone c .accepted 0 (startSweep s)

/-- SWEEP_DONE, and the record becomes not active with its totals kept (R96, R102). The step REPORTING and the sweep day
stay as they are; R96 fixes neither, so it is the model's choice (log 39). -/
def reportSweep (s : State) : State :=
  let s' := makeReport (.sweepDone s.sweep.expired s.sweep.skipped s.sweep.ended) none none none none s
  { s' with sweep := { s'.sweep with active := false } }

/-- The ENDING step: the end-day claim, its count handed back (R81, R102). -/
def endSweep (s : State) : State :=
  let s' := endDayClaim s.sweep.day s
  reportSweep { s' with sweep := { s'.sweep with step := .reporting, ended := endDayCount s.sweep.day s } }

/-- The sweep record after one visit (R100). -/
def visited (result : VisitResult) (w : Sweep) : Sweep :=
  { w with
    cursor := w.cursor + 1
    step := if w.cursor + 1 < Config.slots then .visiting else .ending
    expired := w.expired + oneIf (result == .expired)
    skipped := w.skipped + oneIf (result == .skipped) }

/-- A visit is taken for the slot at the cursor (R19, R100). -/
def visitSlot (s : State) : State :=
  let result := visitJudgement s s.sweep.day s.sweep.cursor
  let s' := if result = .expired then expireSlot s.sweep.cursor s else s
  { s' with sweep := visited result s'.sweep }

/-- A granted visit; the last one is followed in the same step by the end-day claim and SWEEP_DONE (log 16). -/
def sweepVisit (s : State) : State :=
  let s' := visitSlot s
  if s'.sweep.step = .ending then endSweep s' else s'

end Sys2Proof.Machine
end

