-- ==== Sys2Proof/Machine/Greetings.lean ====
section
/-! DEFINITION. The Greeting Selector: the choice and its fallback chain (R110 to R112), composed windows (R115), play
latches and alias reads (R116 to R123), and the protection of greetings in play (R125). -/

namespace Sys2Proof.Machine

/-- The week-minute of the present moment (R93). -/
def weekMinute (s : State) : Nat := 1440 * ((s.calendar.day + s.control.header.weekday) % 7) + s.calendar.minute

/-- A week-minute is inside a schedule entry (R107). -/
def insideSchedule (ws : List Window) (t : Nat) : Bool := ws.any fun w => decide (w.on ≤ t) && decide (t < w.off)

/-- Today is inside the Break List (R109). -/
def insideBreaks (ranges : List DayRange) (day : Nat) : Bool :=
  ranges.any fun r => decide (r.first ≤ day) && decide (day ≤ r.last)

/-- The present moment is before absence-until; seconds take no part (R110 step 2). -/
def beforeAbsence (s : State) (b : MailboxRec) : Bool :=
  decide (s.calendar.day < b.absenceDay)
    || (s.calendar.day == b.absenceDay && decide (s.calendar.minute < b.absenceMinute))

/-- Absent by the encoding of R198. -/
def absenceAbsent (b : MailboxRec) : Bool := b.absenceMinute == 65535

def scheduleAbsent (b : MailboxRec) : Bool := b.schedule == 255

/-- The choice before its fallback chain (R110; R112 while the calendar is unset). -/
def firstChoice (s : State) (b : MailboxRec) : Greeting :=
  if b.status ≠ .active then .system
  else if s.calendar.isSet = false then .primary
  else if b.absence.length ≠ 0 ∧ absenceAbsent b = false ∧ beforeAbsence s b then .absence
  else if (classAt s b.cls).followsBreaks ∧ insideBreaks s.greetings.breaks s.calendar.day then .onBreak
  else if scheduleAbsent b then .primary
  else if insideSchedule (scheduleAt s b.schedule) (weekMinute s) then .primary
  else .afterHours

/-- The locator of a choice (R111); NONE has none. -/
def choiceLocator (c : ClassEntry) (b : MailboxRec) : Greeting → Locator
  | .primary => b.primary
  | .afterHours => b.afterHours
  | .onBreak => b.onBreak
  | .absence => b.absence
  | .system => c.system
  | .none => ⟨0, 0⟩

/-- The next link of the fallback chain (R111). -/
def nextChoice : Greeting → Greeting
  | .absence => .primary
  | .onBreak => .afterHours
  | .afterHours => .primary
  | .primary => .system
  | .system => .none
  | .none => .none

/-- A choice carried down its chain: each link followed only when the present choice's locator is absent (R111). -/
def carryDown (c : ClassEntry) (b : MailboxRec) : Nat → Greeting → Greeting
  | 0, g => g
  | n + 1, g => if (choiceLocator c b g).length = 0 then carryDown c b n (nextChoice g) else g

/-- The greeting given by a selection (R110 to R112). The longest chain has four links. -/
def selectGreeting (s : State) (m : Nat) : Greeting :=
  carryDown (classOf s m) (boxAt s m) 4 (firstChoice s (boxAt s m))

/-- A composed window (R115). -/
structure ComposedWindow where
  pieces   : List Piece
  composed : Nat
deriving DecidableEq, Repr

/-- One more piece behind those laid out, cut at 128 blocks (R115). -/
def addPiece (kind : PieceKind) (l : Locator) (w : ComposedWindow) : ComposedWindow :=
  if l.length = 0 ∨ Config.laneBlocks ≤ w.composed then w
  else
    let length := if Config.laneBlocks < w.composed + l.length then Config.laneBlocks - w.composed else l.length
    ⟨w.pieces ++ [⟨kind, l.first, length, w.composed⟩], w.composed + length⟩

/-- The window of a mailbox and a greeting (R115). -/
def composeWindow (s : State) (m : Nat) (g : Greeting) : ComposedWindow :=
  addPiece .trailer (classOf s m).trailer (addPiece .greeting (choiceLocator (classOf s m) (boxAt s m) g)
    (addPiece .preamble (classOf s m).preamble ⟨[], 0⟩))

/-- The piece that holds a window block. -/
def pieceAt (pieces : List Piece) (block : Nat) : Option Piece :=
  pieces.find? fun p => decide (p.start ≤ block) && decide (block < p.start + p.length)

/-- The physical address of a position in a piece (R116). -/
def physicalAddr (p : Piece) (position : Nat) : Nat :=
  Config.blockBytes * (p.first + (position / Config.blockBytes - p.start)) + position % Config.blockBytes

/-- The mailbox, lane and position of an offset of the ALIAS region (R114). -/
def aliasMailbox (offset : Nat) : Nat := offset / 1048576
def aliasLane (offset : Nat) : Nat := offset / 524288 % 2
def aliasPosition (offset : Nat) : Nat := offset % 524288

/-- A response joins the end of the response order, fixed already or not (R176). -/
def joinOrder (response : Option Response) (s : State) : State :=
  { s with transit := { s.transit with order := s.transit.order ++ [response] } }

/-- The response of an alias read answered with zero words (R117). -/
def zeroWords (words : Nat) : Response := ⟨.done, zeros (8 * words)⟩

/-- A read served from a window: translated (R116) or answered with zeros (R117). -/
def serveWindow (pieces : List Piece) (position words : Nat) (s : State) : State :=
  match pieceAt pieces (position / Config.blockBytes) with
  | some p => joinOrder none (place [⟨.read, physicalAddr p position, words, [], .translated⟩] s)
  | none => joinOrder (some (zeroWords words)) s

/-- The latch a lane holds. -/
def laneLatch (s : State) (m lane : Nat) : Option Nat :=
  lowest (fun l => match l with | some l => l.mailbox == m && l.lane == lane | none => false)
    s.greetings.latches.toList

/-- The lowest-numbered FREE latch (R120). -/
def freeLatch (s : State) : Option Nat := lowest Option.isNone s.greetings.latches.toList

/-- A latch is released: it becomes FREE, and the empty spell ends (R119, R123). -/
def releaseLatch (k : Nat) (s : State) : State :=
  { s with greetings := { s.greetings with
      latches := s.greetings.latches.setIfInBounds k none, emptySpell := false } }

/-- The deadline of a latch served now (R122). -/
def latchDeadline (s : State) : Nat := s.now + secondsToCycles s.control.header.latchIdle

/-- A play that finds no latch FREE: the first of an empty spell makes LATCH_POOL_EMPTY (R123). -/
def playUnlatched (m lane : Nat) (s : State) : State :=
  if s.greetings.emptySpell then s
  else makeReport (.latchPoolEmpty lane) (some m) none none none
    { s with greetings := { s.greetings with emptySpell := true } }

/-- The latch of a play that starts (R120 steps 3 to 5, R123). -/
def startPlay (m lane : Nat) (g : Greeting) (w : ComposedWindow) (s : State) : State :=
  match laneLatch s m lane with
  | some k =>
      if w.composed = 0 then releaseLatch k s
      else putLatch k (some ⟨m, lane, g, w.pieces, w.composed, latchDeadline s⟩) s
  | none =>
      if w.composed = 0 then s
      else match freeLatch s with
        | some k => putLatch k (some ⟨m, lane, g, w.pieces, w.composed, latchDeadline s⟩) s
        | none => playUnlatched m lane s

/-- A read at position 0 of a lane (R120). -/
def aliasStart (m lane words : Nat) (s : State) : State :=
  let g := selectGreeting s m
  let w := composeWindow s m g
  serveWindow w.pieces 0 words (startPlay m lane g w s)

/-- The read lies in the last line of a window (R121). -/
def inLastLine (composed position : Nat) : Bool :=
  decide (Config.blockBytes * composed ≤ position + 128) && decide (position < Config.blockBytes * composed)

/-- A latched read: served from the latch's window; the deadline moves, or the last line releases the latch (R121). -/
def aliasLatched (k : Nat) (l : Latch) (position words : Nat) (s : State) : State :=
  let s' := serveWindow l.pieces position words s
  if inLastLine l.composed position then releaseLatch k s'
  else putLatch k (some { l with deadline := latchDeadline s }) s'

/-- A read at a position other than 0 (R121). -/
def aliasContinue (m lane position words : Nat) (s : State) : State :=
  match laneLatch s m lane with
  | some k =>
      match latchAt s k with
      | some l => aliasLatched k l position words s
      | none => s
  | none => serveWindow (composeWindow s m (selectGreeting s m)).pieces position words s

/-- A read of the ALIAS region (R114, R120, R121). -/
def readAlias (base : Nat) (r : HostRead) (s : State) : State :=
  let offset := r.addr.toNat - base
  if aliasPosition offset = 0 then aliasStart (aliasMailbox offset) (aliasLane offset) r.words.toNat s
  else aliasContinue (aliasMailbox offset) (aliasLane offset) (aliasPosition offset) r.words.toNat s

/-- A piece of a latch holds a physical block (R125). -/
def latchHolds (block : Nat) (l : Latch) : Bool :=
  l.pieces.any fun p => decide (p.first ≤ block) && decide (block < p.first + p.length)

/-- The lowest-numbered HELD latch that holds the block of an address (R125). -/
def latchInPlay (s : State) (addr : Nat) : Option Latch :=
  (s.greetings.latches.toList.filterMap id).find? (latchHolds (addr / Config.blockBytes))

/-- A HELD latch whose idle deadline is reached is released (R122). -/
def expireLatch (k : Nat) (s : State) : State :=
  match latchAt s k with
  | some l => releaseLatch k (reachMoment l.deadline s)
  | none => s

end Sys2Proof.Machine
end

