-- ==== Sys2Proof/Machine/Mailboxes.lean ====
section
/-! DEFINITION. Host writes and reads of the mailbox directory (R26 to R39, R46). -/

namespace Sys2Proof.Machine

/-! ### Value checks (R28, R198), shared by host writes and the load -/

def classGood (v : Nat) : Bool := decide (v ≤ 7)
def capacityGood (v : Nat) : Bool := decide (1 ≤ v) && decide (v ≤ 255)
/-- The lamp's two bytes as one value: shelf entry low, lamp number high. -/
def lampGood (v : Nat) : Bool := v == 0xffff || (decide (v % 256 ≤ 191) && decide (v / 256 ≤ 47))
def scheduleGood (v : Nat) : Bool := v == 255 || decide (v ≤ 63)
/-- Absence-until's four bytes as one value: day low, minute high. -/
def absenceGood (v : Nat) : Bool := v / 65536 == 65535 || decide (v / 65536 ≤ 1439)
def extensionGood (v : Nat) : Bool := decide (v ≤ 999999)

def lampNat (b : MailboxRec) : Nat := b.lampShelf % 256 + 256 * b.lampNumber
def absenceNat (b : MailboxRec) : Nat := b.absenceDay % 65536 + 65536 * b.absenceMinute

def putLampField (v : Nat) (b : MailboxRec) : MailboxRec := { b with lampShelf := v % 256, lampNumber := v / 256 }
def putAbsence (v : Nat) (b : MailboxRec) : MailboxRec :=
  { b with absenceDay := v % 65536, absenceMinute := v / 65536 }

/-! ### One record -/

/-- A mailbox record being judged: the state so far, the record's 64 lanes, the causes to report (R39). -/
structure BoxWork where
  state  : State
  lanes  : List Lane
  causes : List ReportBody
deriving DecidableEq, Repr

/-- A field refused: its bytes withheld, one cause (R27, R39). -/
def refuseField (offset size : Nat) (cause : ReportBody) (j : BoxWork) : BoxWork :=
  { j with lanes := withhold offset size j.lanes, causes := j.causes ++ [cause] }

/-- A field with a value check alone (R27, R28); `put` is how its value enters the shadow. -/
def judgeField (offset size held : Nat) (good : Nat → Bool) (name : FieldName) (put : Nat → State → State)
    (j : BoxWork) : BoxWork :=
  let v := mergedField j.lanes offset size held
  if anyEnabled j.lanes offset size = false ∨ v = held then j
  else if good v then { j with state := put v j.state }
  else refuseField offset size (.fieldRefused name) j

/-- A field of the shadow that no derived field follows. -/
def editBox (m : Nat) (f : MailboxRec → MailboxRec) (s : State) : State := putBox m (f (boxAt s m)) s

/-- Status (R29, R30, R32). -/
def judgeStatus (m : Nat) (j : BoxWork) : BoxWork :=
  let b := boxAt j.state m
  let v := byteOf (laneData j.lanes) 0
  if anyEnabled j.lanes 0 1 = false ∨ v = statusCode b.status then j
  else match statusOf v with
    | none => refuseField 0 1 (.fieldRefused .status) j
    | some .unassigned =>
        if 0 < b.nonFree then refuseField 0 1 (.mailboxNotEmpty b.nonFree) j
        else { j with state := removeMember m (updateBox m (fun b => { b with status := .unassigned }) j.state) }
    | some st => { j with state := updateBox m (fun b => { b with status := st }) j.state }

/-- Class (R33). -/
def judgeClass (m : Nat) (j : BoxWork) : BoxWork :=
  judgeField 1 1 (boxAt j.state m).cls classGood .cls (fun v => updateBox m fun b => { b with cls := v }) j

/-- Capacity (R34). -/
def judgeCapacity (m : Nat) (j : BoxWork) : BoxWork :=
  judgeField 2 1 (boxAt j.state m).capacity capacityGood .capacity
    (fun v => updateBox m fun b => { b with capacity := v }) j

/-- A position is given up in the map, and the Lamp Composer is told (R35). -/
def freePosition (p : Option Nat) (s : State) : State :=
  match p with
  | some p => mapLamp p none (putHolder p none s)
  | none => s

/-- A position is given to a mailbox (R35). -/
def takePosition (m : Nat) (p : Option Nat) (s : State) : State :=
  match p with
  | some p => mapLamp p (some (boxAt s m).mode) (putHolder p (some m) s)
  | none => s

/-- An accepted change of lamp field (R35). -/
def changeLamp (m v : Nat) (s : State) : State :=
  let b := putLampField v (boxAt s m)
  takePosition m (lampPosition b) (putBox m b (freePosition (lampPosition (boxAt s m)) s))

/-- The other mailbox that holds the position a lamp value names (R35). -/
def lampRival (s : State) (m v : Nat) : Option Nat :=
  if v = 0xffff then none
  else match holderAt s (v % 256 * 48 + v / 256) with
    | some other => if other = m then none else some other
    | none => none

/-- Lamp (R35). -/
def judgeLamp (m : Nat) (j : BoxWork) : BoxWork :=
  let held := lampNat (boxAt j.state m)
  let v := mergedField j.lanes 4 2 held
  if anyEnabled j.lanes 4 2 = false ∨ v = held then j
  else if lampGood v = false then refuseField 4 2 (.fieldRefused .lamp) j
  else match lampRival j.state m v with
    | some other => refuseField 4 2 (.lampClash other) j
    | none => { j with state := changeLamp m v j.state }

/-- Schedule, locators and absence-until (R36). -/
def judgeSchedule (m : Nat) (j : BoxWork) : BoxWork :=
  judgeField 3 1 (boxAt j.state m).schedule scheduleGood .schedule
    (fun v => editBox m fun b => { b with schedule := v }) j

def judgeLocator (m offset : Nat) (name : FieldName) (get : MailboxRec → Locator)
    (put : Locator → MailboxRec → MailboxRec) (j : BoxWork) : BoxWork :=
  judgeField offset 4 (locatorNat (get (boxAt j.state m)))
    (fun v => locatorGood j.state.transit.regions (locatorOf v)) name (fun v => editBox m (put (locatorOf v))) j

def judgePrimary (m : Nat) (j : BoxWork) : BoxWork :=
  judgeLocator m 16 .primary (·.primary) (fun l b => { b with primary := l }) j

def judgeAfterHours (m : Nat) (j : BoxWork) : BoxWork :=
  judgeLocator m 20 .afterHours (·.afterHours) (fun l b => { b with afterHours := l }) j

def judgeOnBreak (m : Nat) (j : BoxWork) : BoxWork :=
  judgeLocator m 24 .onBreak (·.onBreak) (fun l b => { b with onBreak := l }) j

def judgeAbsence (m : Nat) (j : BoxWork) : BoxWork :=
  judgeLocator m 28 .absence (·.absence) (fun l b => { b with absence := l }) j

def judgeAbsenceUntil (m : Nat) (j : BoxWork) : BoxWork :=
  judgeField 12 4 (absenceNat (boxAt j.state m)) absenceGood .absenceUntil (fun v => editBox m (putAbsence v)) j

/-- Extension (R37). -/
def judgeExtension (m : Nat) (j : BoxWork) : BoxWork :=
  judgeField 8 4 (boxAt j.state m).extension extensionGood .extension
    (fun v => editBox m fun b => { b with extension := v }) j

/-- Derived and acknowledge bytes are withheld without report (R27); spare bytes are forwarded. -/
def withholdDerived (lanes : List Lane) : List Lane := withhold 6 1 (withhold 48 8 (withhold 32 15 lanes))

/-- The host fields of a record in the order of R28, the acknowledge field apart. -/
def judgeFields (m : Nat) (lanes : List Lane) (s : State) : BoxWork :=
  judgeExtension m (judgeAbsenceUntil m (judgeAbsence m (judgeOnBreak m (judgeAfterHours m (judgePrimary m
    (judgeSchedule m (judgeLamp m (judgeCapacity m (judgeClass m (judgeStatus m
      ⟨s, withholdDerived lanes, []⟩))))))))))

/-- The acknowledge field (R38). -/
def judgeAcknowledge (m value : Nat) (j : BoxWork) : BoxWork :=
  if value = 0 then j
  else if 16 < value then
    { j with
      state := reportBox m [.fieldRefused .acknowledge] j.state
      causes := j.causes ++ [.fieldRefused .acknowledge] }
  else { j with state := leaveBroadcast (value - 1) m j.state }

/-- One record: its fields, their reports with the extension as judged, then the acknowledge field (R28, R39). -/
def judgeBox (m : Nat) (lanes : List Lane) (s : State) : BoxWork :=
  let j := judgeFields m lanes s
  judgeAcknowledge m (if anyEnabled lanes 6 1 then byteOf (laneData lanes) 6 else 0)
    { j with state := reportBox m j.causes j.state }

/-- The mailbox records of a write in ascending order (R26). -/
def judgeBoxes (first : Nat) : List Nat → LineWork → LineWork
  | [], x => x
  | i :: is, x =>
      let j := judgeBox (first + i) (recordLanes x.line i 64) x.state
      judgeBoxes first is ⟨j.state, putRecord x.line i 64 j.lanes, x.adjusted || !j.causes.isEmpty, x.stamps⟩

/-- A MAILBOX_DIR write: judged, then forwarded (R26). -/
def mailboxDirWrite (base : Nat) (w : HostWrite) (s : State) : State :=
  let x := judgeBoxes (firstRecord base w.addr.toNat 64) (coveredRecords w.addr.toNat w.words.toNat 64)
    ⟨s, lineLanes w, false, []⟩
  place [hostWriteEntry w (linePart w x.line) x.adjusted] x.state

/-- A count overlaid in two bytes, held at 65,535 (R50). -/
def shownCount (n : Nat) : List Byte := leBytes 2 (if 65535 < n then 65535 else n)

/-- The overlay of one mailbox record (R46, section 11.3). -/
def mailboxOverlay (index : Nat) (s : State) (m : Nat) : List (Option Byte) :=
  let b := boxAt s m
  List.replicate 6 none ++ [some 0] ++ List.replicate 25 none
    ++ (shownCount b.new ++ shownCount b.urgentNew ++ shownCount b.heard ++ shownCount b.saved ++ shownCount b.spent
        ++ leBytes 1 b.unheard ++ leBytes 1 b.urgentUnheard ++ [yesNo b.full] ++ leBytes 1 (modeCode b.mode)
        ++ leBytes 1 (greetingCode (selectGreeting s m))).map some
    ++ [none]
    ++ (leBytes 2 (optionalNat b.unheardQueue.head? (.unheardHead m) index 2)
        ++ leBytes 2 (optionalNat b.keptQueue.head? (.keptHead m) index 2)
        ++ [yesNo b.unheardQueue.head?.isSome, yesNo b.keptQueue.head?.isSome]
        ++ shownCount b.nonFree).map some
    ++ List.replicate 8 none

/-- A MAILBOX_DIR read: forwarded with its overlay sampled (R46, R172). -/
def mailboxDirRead (base : Nat) (r : HostRead) (s : State) : State :=
  let first := firstRecord base r.addr.toNat 64
  place [hostReadEntry r (overlayPart r
    ((List.range 2).flatMap fun i => mailboxOverlay s.transit.joined s (first + i)))] s

end Sys2Proof.Machine
end

