-- ==== Sys2Proof/Machine/Links.lean ====
section
/-! DEFINITION. The two Link Controllers: frames (R144 to R148, R200), the arbiter (R151), exchanges and their timers
(R150, R152), the judgement of replies (R153 to R158), halt and orphaned exchanges (R159, R160). -/

namespace Sys2Proof.Machine

/-! ### Frames -/

/-- LAMP_SET: kind 1, address, sequence, six words of modes, check word (section 11.8). -/
def lampSetFrame (addr sequence : Nat) (image : Image) : List FrameWord :=
  sealFrame ([BitVec.ofNat 16 (1 * 256 + addr), BitVec.ofNat 16 sequence] ++ wordsOf 6 (packModes image.toList))

/-- PROBE: kind 2, address, check word. -/
def probeFrame (addr : Nat) : List FrameWord := sealFrame [BitVec.ofNat 16 (2 * 256 + addr)]

/-- CADENCE: kind 3, address 127, phase, check word. -/
def cadenceFrame (phase : Nat) : List FrameWord :=
  sealFrame [BitVec.ofNat 16 (3 * 256 + 127), BitVec.ofNat 16 phase]

/-- What the part reads of a reply that is no check error (section 11.8). -/
structure Reply where
  addr     : Nat
  echo     : Nat
  powerLow : Bool
  faults   : BitVec 48
  checksum : Nat
deriving DecidableEq, Repr

/-- A reply of 8 words with the REPLY kind and a good check word; any other is a check error (R144, R200). -/
def readReply : List FrameWord → Option Reply
  | [w0, w1, w2, w3, w4, w5, w6, w7] =>
      if w0.toNat / 256 = 4 ∧ wordSum [w0, w1, w2, w3, w4, w5, w6, w7] = 0 then
        some ⟨w0.toNat % 256, w1.toNat, w2.getLsbD 0, w5 ++ w4 ++ w3, w6.toNat⟩
      else none
  | _ => none

/-- The bits that a link puts out for the frame it is sending (R200); nothing while it is idle or awaits a reply. -/
def linkBits (k : Link) (s : State) : List Bool :=
  match (linkState s.lamps k).activity with
  | .idle => []
  | .cadence words => frameBits words
  | .exchange x => if x.timer = .sending then frameBits x.words else []

/-! ### Choosing a frame -/

def updateLink (k : Link) (f : LinkState → LinkState) (s : State) : State :=
  { s with lamps := putLinkState k (f (linkState s.lamps k)) s.lamps }

def setActivity (k : Link) (a : Activity) (s : State) : State := updateLink k (fun x => { x with activity := a }) s

/-- A CADENCE is built: it carries the phase and clears the flag (R148). -/
def sendCadence (k : Link) (s : State) : State :=
  updateLink k (fun x => { x with activity := .cadence (cadenceFrame s.lamps.phase), cadenceDue := false }) s

/-- The sequence advanced by one, 15 followed by 0 (R145). -/
def nextSequence (n : Nat) : Nat := (n + 1) % 16

/-- A LAMP_SET is built for the shelf chosen; the cursor becomes its address (R137, R145). -/
def sendLampSet (k : Link) (a : Nat) (s : State) : State :=
  let e := entryOf k a
  let sh := shelfAt s e
  let n := nextSequence sh.sequence
  updateLink k (fun x => { x with
      cursor := a
      activity := .exchange ⟨.lampSet, a, n, some sh.composed, lampSetFrame a n sh.composed, .sending, false⟩ })
    (updateShelf e (fun sh => { sh with sequence := n }) s)

/-- A PROBE is built; the probe moment reached is taken by it (R146, R152). -/
def sendProbe (k : Link) (a : Nat) (s : State) : State :=
  setActivity k (.exchange ⟨.probe, a, 0, none, probeFrame a, .sending, false⟩)
    (updateShelf (entryOf k a) (fun sh => { sh with probeAt := none }) s)

/-- The lowest address of a link whose probe moment has been reached (R151). A moment counts as reached from the CLK32 edge
that moves the counter to it, so a PROBE can go out at the rest after another event of that edge, CALENDAR_ADVANCE say,
ahead of a CADENCE_TICK and of its own PROBE_MOMENT_REACHED; the spec orders no two events of one edge, so it is the model's
choice (log 4). -/
def dueProbe (s : State) (k : Link) : Option Nat :=
  (List.range 96).find? fun a =>
    match (shelfAt s (entryOf k a)).probeAt with
    | some t => decide (t ≤ s.now)
    | none => false

/-- The arbiter's choice (R151). -/
def chooseFrame (k : Link) (s : State) : State :=
  if (linkState s.lamps k).cadenceDue then sendCadence k s
  else match nextDirty s.lamps k with
    | some a => sendLampSet k a s
    | none =>
      match dueProbe s k with
      | some a => sendProbe k a s
      | none => s

/-- A link that is free chooses, while the part is RUNNING (R129, R151). -/
def chooseLink (k : Link) (s : State) : State :=
  if s.part = .running ∧ (linkState s.lamps k).activity = .idle then chooseFrame k s else s

def chooseLinks (s : State) : State := chooseLink .b (chooseLink .a s)

/-! ### Outcomes -/

/-- One probe interval from now (R152). -/
def probeLater (s : State) : Option Nat := some (s.now + secondsToCycles s.control.header.probeInterval)

/-- A shelf becomes HALTED with its cause reported (R159, R161). -/
def haltShelf (e : Nat) (cause : HaltCause) (s : State) : State :=
  reportShelf e (.shelfHalted (shelfAt s e).powerLow cause)
    (updateShelf e (fun sh => { sh with link := .halted, probeAt := none }) s)

/-- A miss (R157): the count rises, held at 3; the third makes a PROBING or ONLINE shelf LOST. -/
def missShelf (e : Nat) (s : State) : State :=
  let sh := shelfAt s e
  let count := if 3 ≤ sh.misses + 1 then 3 else sh.misses + 1
  let lost := decide (count = 3) && sh.link != .lost
  let s' := updateShelf e (fun sh => { sh with
    invalidated := false
    lastSent := if sh.invalidated then none else sh.lastSent
    misses := count
    probeAt := probeLater s
    link := if lost then .lost else sh.link }) s
  if lost then reportShelf e (.shelfLost sh.powerLow sh.link) s' else s'

/-- A check error that is not discarded (R156). -/
def checkErrorShelf (e : Nat) (s : State) : State :=
  if (shelfAt s e).haltOnCheck then
    haltShelf e .checkError (updateShelf e (fun sh => { sh with
      invalidated := false, lastSent := if sh.invalidated then none else sh.lastSent }) s)
  else missShelf e s

/-- The watch judged from a good reply (R158). -/
def judgeWatch (e : Nat) (r : Reply) (s : State) : State :=
  let sh := shelfAt s e
  let lamps := watchMatches sh r.faults
  match lamps with
  | [] => updateShelf e (fun sh => { sh with watchMatch := false }) s
  | lamp :: _ =>
      if sh.watchMatch then s
      else
        let s' := reportShelf e (.shelfWatch sh.powerLow lamp lamps.length)
          (updateShelf e (fun sh => { sh with watchMatch := true }) s)
        if sh.haltOnMatch then haltShelf e .watch s' else s'

/-- A good reply from a PROBING or LOST shelf (R154). -/
def shelfAnswers (e : Nat) (r : Reply) (s : State) : State :=
  reportShelf e (.shelfOnline r.powerLow (shelfAt s e).link)
    (updateShelf e (fun sh => { sh with
      link := .online
      misses := 0
      lastSent := none
      invalidated := false
      powerLow := r.powerLow
      probeAt := probeLater s }) s)

/-- The checksum a good reply of an ONLINE shelf is held against: the image a LAMP_SET carried, or the last-sent image
for a PROBE; none when that is unknown (R147, R155). -/
def expectedChecksum (sh : Shelf) (x : Exchange) : Option Nat :=
  match x.kind with
  | .lampSet => x.image.map checksum
  | .probe => sh.lastSent.map checksum

/-- The last-sent image after a good reply of an ONLINE shelf (R155). -/
def sentAfter (sh : Shelf) (x : Exchange) (r : Reply) : Option Image :=
  match expectedChecksum sh x with
  | none => sh.lastSent
  | some c =>
      if r.checksum ≠ c then none
      else match x.kind with
        | .lampSet => if sh.invalidated then none else x.image
        | .probe => sh.lastSent

/-- A good reply from an ONLINE shelf, its watch apart (R155). -/
def shelfConfirms (e : Nat) (x : Exchange) (r : Reply) (s : State) : State :=
  let sh := shelfAt s e
  let s' := updateShelf e (fun sh => { sh with
    misses := 0
    powerLow := r.powerLow
    probeAt := probeLater s
    lastSent := sentAfter sh x r
    invalidated := false }) s
  match expectedChecksum sh x with
  | none => s'
  | some c =>
      if r.checksum = c then s' else reportShelf e (.shelfImageMismatch r.powerLow x.kind c r.checksum) s'

/-- A good reply (R154, R155, R158). -/
def goodReply (e : Nat) (x : Exchange) (r : Reply) (s : State) : State :=
  judgeWatch e r (if (shelfAt s e).link = .online then shelfConfirms e x r s else shelfAnswers e r s)

/-- The outcome of an orphaned exchange: the flag clears and the link is freed, nothing else (R160). -/
def orphanOutcome (e : Nat) (s : State) : State := updateShelf e (fun sh => { sh with invalidated := false }) s

/-- The cycles left of a timer that is running or suspended. -/
def resumed (s : State) (t : ReplyTimer) : ReplyTimer :=
  match t with
  | .suspended left => .waiting (s.now + left)
  | t => t

/-- A discarded reply: a timeout it suspended resumes (R150, R153). -/
def discardReply (k : Link) (x : Exchange) (s : State) : State :=
  setActivity k (.exchange { x with timer := resumed s x.timer }) s

/-- The exchange waits for a reply: it has ended its frame (R150, R153). -/
def isWaiting (x : Exchange) : Bool := x.timer != .sending

/-- A reply taken at its Link Controller (R153). -/
def replyTaken (k : Link) (words : List FrameWord) (s : State) : State :=
  match (linkState s.lamps k).activity with
  | .exchange x =>
      if s.part ≠ .running ∨ isWaiting x = false then s
      else
        let e := entryOf k x.addr
        match readReply words with
        | none =>
            setActivity k .idle (if x.orphaned then orphanOutcome e s else checkErrorShelf e s)
        | some r =>
            if r.addr ≠ x.addr ∨ r.echo ≠ x.sequence then discardReply k x s
            else setActivity k .idle (if x.orphaned then orphanOutcome e s else goodReply e x r s)
  | _ => s

/-- The reply timeout of an exchange runs out (R150, R157). -/
def replyExpired (k : Link) (s : State) : State :=
  match (linkState s.lamps k).activity with
  | .exchange x =>
      match x.timer with
      | .waiting moment =>
          if s.part = .running then
            let s' := reachMoment moment s
            setActivity k .idle
              (if x.orphaned then orphanOutcome (entryOf k x.addr) s' else missShelf (entryOf k x.addr) s')
          else s
      | _ => s
  | _ => s

/-- A shelf's probe moment is reached; a free link then chooses (R151, R152). Where the PROBE has gone out already, at the rest
after an earlier event of the same edge, no moment is left and nothing happens (log 4). -/
def probeReached (e : Nat) (s : State) : State :=
  match (shelfAt s e).probeAt with
  | some moment => reachMoment moment s
  | none => s

/-- The last word of a frame goes out: a CADENCE frees the link, an exchange starts waiting (R148, R150). -/
def frameEnded (k : Link) (s : State) : State :=
  match (linkState s.lamps k).activity with
  | .cadence _ => setActivity k .idle s
  | .exchange x =>
      if x.timer = .sending then
        setActivity k (.exchange { x with
          timer := .waiting (s.now + Config.timeoutCycles s.control.header.replyTimeout) }) s
      else s
  | .idle => s

/-- The first word of a reply suspends the timeout of a waiting exchange (R150). -/
def replyBegins (k : Link) (s : State) : State :=
  match (linkState s.lamps k).activity with
  | .exchange x =>
      match x.timer with
      | .waiting moment => setActivity k (.exchange { x with timer := .suspended (moment - s.now) }) s
      | _ => s
  | _ => s

/-! ### Ticks, entry writes and refresh -/

/-- A cadence tick (R148): under RESET the generator does not tick; outside RUNNING the phase advances unsent. -/
def cadenceTicks (s : State) : State :=
  if s.part = .reset then s
  else
    let due := s.part == .running
    { s with lamps := { s.lamps with
        phase := (s.lamps.phase + 1) % 8
        cycles := 0
        linkA := { s.lamps.linkA with cadenceDue := due || s.lamps.linkA.cadenceDue }
        linkB := { s.lamps.linkB with cadenceDue := due || s.lamps.linkB.cadenceDue } } }

/-- The exchange in flight is with a shelf. -/
def isInFlight (s : State) (e : Nat) : Bool :=
  match (linkState s.lamps (linkOf e)).activity with
  | .exchange x => x.addr == e % 96
  | _ => false

/-- The exchange in flight is orphaned (R160). -/
def orphanExchange (k : Link) (s : State) : State :=
  match (linkState s.lamps k).activity with
  | .exchange x => setActivity k (.exchange { x with orphaned := true }) s
  | _ => s

/-- A valid shelf entry write (R130, R159): the host fields enter, the entry is recomposed, its link record starts
afresh, an exchange in flight with it is orphaned. -/
def writeShelf (e : Nat) (host : Shelf) (s : State) : State :=
  let flying := isInFlight s e
  let s' := updateShelf e (fun sh => recomposed (isDark s) { sh with
    configured := host.configured
    watchFault := host.watchFault
    haltOnMatch := host.haltOnMatch
    haltOnCheck := host.haltOnCheck
    watchMask := host.watchMask
    sourceSelect := host.sourceSelect
    override := host.override
    lastSent := none
    invalidated := flying || sh.invalidated
    link := if host.configured then .probing else .unconfigured
    probeAt := if host.configured then some s.now else none
    misses := 0
    watchMatch := false
    sequence := 0
    powerLow := false }) s
  if flying then orphanExchange (linkOf e) s' else s'

/-- LAMP_REFRESH at one entry (R140). -/
def refreshShelf (e : Nat) (s : State) : State :=
  if (shelfAt s e).configured then
    updateShelf e (fun sh => { sh with lastSent := none, invalidated := isInFlight s e || sh.invalidated }) s
  else s

/-- LAMP_REFRESH (R140). -/
def commandRefresh (c : Command) (s : State) : State :=
  commandDone c .accepted 0 (forEach refreshShelf (List.range 192) s)

/-! ### PRUN -/

/-- A change of the PRUN level (R133, R197): while RUNNING, recomposition under DARK and one notice. -/
def setPrun (high : Bool) (s : State) : State :=
  if s.prun = high then s
  else if s.part = .running then
    let s' := { s with prun := high }
    let s'' := if s.control.header.dark then recomposeAll s' else s'
    makeReport (if high then .procRunning s.control.header.dark else .procStopped s.control.header.dark)
      none none none none s''
  else { s with prun := high }

end Sys2Proof.Machine
end

