-- ==== Sys2Proof/Machine/Resets.lean ====
section
/-! DEFINITION. The part states and what each entry does to the blocks: RESET, LOADING, FAILED (R187, R190, R191, and
the tables of R1, R25, R52, R72, R88, R96, R106, R108, R119, R129, R143, R167, R173, R193). -/

namespace Sys2Proof.Machine

/-- Every shadow, table, context, latch, pending set and link record empty, FREE, IDLE or UNCONFIGURED. The cadence
phase and cycles are kept (R148). -/
def clearShadows (s : State) : State :=
  { s with
    transit := { s.transit with regions := [] }
    slots := []
    boxes := []
    lampMap := []
    deposit := DepositUnit.empty
    broadcasts := Vector.replicate 16 Broadcast.absent
    sweep := Sweep.idle
    greetings := GreetingUnit.empty
    lamps := ⟨Vector.replicate 192 Shelf.empty, LinkState.empty, LinkState.empty, s.lamps.phase, s.lamps.cycles⟩
    control := ControlUnit.empty }

/-- The loader's entries drain, and their answers are for nobody (R179, R187, R190). -/
def orphanLoader (e : Entry) : Entry :=
  match e.origin with
  | .loadRead _ => { e with origin := .drained }
  | .loadWrite => { e with origin := .drained }
  | _ => e

/-- Under RESET a report write drains as well, and its answer does not move the index (R193). -/
def orphanReport (e : Entry) : Entry :=
  match e.origin with
  | .report => { e with origin := .drained }
  | _ => orphanLoader e

/-- RESET asserted (R187). The response order, the arrivals and the queue are kept (R173, R180); the calendar, the
cadence, the reports and the error latch start afresh (R88, R148, R193 to R195). -/
def assertReset (s : State) : State :=
  let s' := clearShadows s
  { s' with
    part := .reset
    transit := { s'.transit with queue := s.transit.queue.map orphanReport, turn := .upstream }
    calendar := Calendar.atReset
    lamps := { s'.lamps with phase := 0, cycles := 0 }
    reports := ReportUnit.empty
    restartTag := none
    loader := none
    failing := none }

/-- Entry to LOADING (R187, R191): the straps are sampled, the set-aside counts start from 0 (R189), reports not yet
asked for are dropped (at a RESTART taken in FAILED as well, log 43), the load begins. -/
def enterLoading (s : State) : State :=
  let s' := clearShadows s
  { s' with
    part := .loading
    transit := { s'.transit with ctlSel := s.straps, turn := .upstream }
    reports := dropHeld s.reports
    counts := ⟨0, 0, 0⟩
    loader := some ⟨0, 0, [], 0, []⟩
    failing := none }

/-- RESET released (R187). -/
def releaseReset (straps : BitVec 4) (s : State) : State :=
  if s.part = .reset then enterLoading { s with straps := straps } else s

/-- A load fails (R190, steps 1 to 3): an empty error latch takes LOAD_FAILED, every shadow is emptied, and the loader's
entries in the queue drain for nobody. The part settles in FAILED when they have (R179, log 37). -/
def failLoad (cause : LoadFailure) (s : State) : State :=
  let s' := clearShadows s
  { s' with
    transit := { s'.transit with queue := s.transit.queue.map orphanLoader }
    reports := fillLatch (reportNow (.loadFailed cause) none none none none s') s.reports
    restartTag := none
    loader := none
    failing := some cause }

/-- An entry that drains for nobody. -/
def isDraining (e : Entry) : Bool := e.origin == .drained

/-- The part is in FAILED, every shadow left empty (R190, step 2), reports of LOADING not yet asked for are dropped
(log 44), and LOAD_FAILED is made (step 4): with no base known it is not written, and the reports-dropped flag is set. -/
def enterFailed (cause : LoadFailure) (s : State) : State :=
  let s' := clearShadows s
  let failed := { s' with
    part := .failed
    transit := { s'.transit with turn := .upstream }
    reports := dropHeld s.reports
    failing := none }
  if s.reports.base.isSome then makeReport (.loadFailed cause) none none none none failed
  else { failed with reports := { failed.reports with dropped := true } }

/-- A failed load settles in FAILED when no entry of its loader is left in the queue (R179, R190). -/
def settleFailure (s : State) : State :=
  match s.failing with
  | some cause => if s.transit.queue.any isDraining then s else enterFailed cause s
  | none => s

end Sys2Proof.Machine
end

