-- ==== Sys2Proof/Machine/Tables.lean ====
section
/-! DEFINITION. The records of the Control Area: where they lie (section 11.4 to 11.6), how their bytes are read, and
the checks of R183 with the name of the first that fails. -/

namespace Sys2Proof.Machine

/-- The records judged under the whole-entry convention (R182), each with its number. -/
inductive AreaRecord where
  | command
  | consumer
  | cls (i : Nat)
  | calibration (i : Nat)
  | breakList
  | schedule (i : Nat)
  | broadcast (i : Nat)
  | shelf (i : Nat)
deriving DecidableEq, Repr

def recordKind : AreaRecord → RecordKind
  | .command => .command
  | .consumer => .consumer
  | .cls _ => .cls
  | .calibration _ => .calibration
  | .breakList => .breakList
  | .schedule _ => .schedule
  | .broadcast _ => .broadcast
  | .shelf _ => .shelf

/-- Offset of a record in the Control Area (section 11.4, 11.6). -/
def recordOffset : AreaRecord → Nat
  | .command => 0x80
  | .consumer => 0xc0
  | .cls i => 0x400 + i * 0x40
  | .calibration i => 0x600 + i * 0x10
  | .breakList => 0x700
  | .schedule i => 0x800 + i * 0x20
  | .broadcast i => 0x1000 + i * 0x20
  | .shelf i => 0x2000 + i * 0x20

def recordSize : AreaRecord → Nat
  | .command => 16
  | .consumer => 8
  | .cls _ => 64
  | .calibration _ => 16
  | .breakList => 128
  | .schedule _ => 32
  | .broadcast _ => 32
  | .shelf _ => 32

/-- The whole-entry records of one line of the area, ascending; `line` is the line's offset. -/
def lineRecords (line : Nat) : List AreaRecord :=
  if line = 0x80 then [.command, .consumer]
  else if 0x400 ≤ line ∧ line < 0x600 then (List.range 2).map fun i => .cls ((line - 0x400) / 0x40 + i)
  else if line = 0x600 then (List.range 4).map .calibration
  else if line = 0x700 then [.breakList]
  else if 0x800 ≤ line ∧ line < 0x1000 then (List.range 4).map fun i => .schedule ((line - 0x800) / 0x20 + i)
  else if 0x1000 ≤ line ∧ line < 0x1200 then (List.range 4).map fun i => .broadcast ((line - 0x1000) / 0x20 + i)
  else if 0x2000 ≤ line ∧ line < 0x3800 then (List.range 4).map fun i => .shelf ((line - 0x2000) / 0x20 + i)
  else []

/-- The whole-entry records that the words of a transaction at an offset of the area touch, ascending (R182). -/
def touchedRecords (offset words : Nat) : List AreaRecord :=
  (lineRecords (offset / 128 * 128)).filter fun a =>
    decide (recordOffset a < offset + 8 * words) && decide (offset < recordOffset a + recordSize a)

/-- The lanes of a record within its line. -/
def areaLanes (line : List Lane) (a : AreaRecord) : List Lane := (line.drop (recordOffset a % 128)).take (recordSize a)

/-! ### Reading entries -/

/-- A class entry's fields; a code that is none of its field's is judged before the entry is used. -/
def readClass (b : List Byte) : ClassEntry where
  retainNew := fieldOf b 0x00 2
  retainHeard := fieldOf b 0x02 2
  retainSaved := fieldOf b 0x04 2
  maxDeposit := fieldOf b 0x06 2
  idle := byteOf b 0x08
  followsBreaks := (flagOf (byteOf b 0x09)).getD false
  urgentMode := (modeOf (byteOf b 0x0a)).getD .off
  pendingMode := (modeOf (byteOf b 0x0b)).getD .off
  fullMode := (modeOf (byteOf b 0x0c)).getD .off
  minVoiced := fieldOf b 0x10 2
  system := locatorAt b 0x14
  preamble := locatorAt b 0x18
  trailer := locatorAt b 0x1c

/-- The first failed check of a class entry (R183). -/
def checkClass (regions : List Region) (b : List Byte) : Option CheckName :=
  let c := readClass b
  if 3650 < c.retainNew ∨ 3650 < c.retainHeard ∨ 3650 < c.retainSaved then some .retention
  else if c.maxDeposit < 1 ∨ 4095 < c.maxDeposit then some .depositLength
  else if c.idle < 5 then some .idleTime
  else if modeOf (byteOf b 0x0a) = none ∨ modeOf (byteOf b 0x0b) = none ∨ modeOf (byteOf b 0x0c) = none then
    some .lampPolicy
  else if flagOf (byteOf b 0x09) = none then some .flag
  else if !(locatorGood regions c.system && locatorGood regions c.preamble && locatorGood regions c.trailer) then
    some .locator
  else none

def readCalibration (b : List Byte) : Calibration := ⟨signedOf b 0, fieldOf b 2 2, fieldOf b 4 2⟩

/-- The first failed check of a calibration entry (R53, R183). -/
def checkCalibration (b : List Byte) : Option CheckName :=
  let c := readCalibration b
  if c.offset < -2048 ∨ 2047 < c.offset then some .offset
  else if 1023 < c.gain then some .gain
  else if 32767 < c.threshold then some .threshold
  else none

/-- The used cells of 8 bytes, and whether a used one stands behind an unused one. -/
def usedCells : Nat → List Byte → List (Nat × Nat)
  | 0, _ => []
  | n + 1, b =>
      if byteOf b 4 = 0 then usedCells n (b.drop 8)
      else (fieldOf b 0 2, fieldOf b 2 2) :: usedCells n (b.drop 8)

/-- The checks of the Break List, range by range (R108): `gap` is whether an unused range came before, `last` the last
day of the used range before. -/
def checkRanges : Nat → Bool → Option Nat → List Byte → Option CheckName
  | 0, _, _, _ => none
  | n + 1, gap, last, b =>
      if byteOf b 4 = 0 then checkRanges n true last (b.drop 8)
      else if fieldOf b 2 2 < fieldOf b 0 2 then some .rangeOrder
      else if gap then some .rangeGap
      else if (match last with | some d => decide (fieldOf b 0 2 ≤ d) | none => false) then some .rangeSequence
      else checkRanges n gap (some (fieldOf b 2 2)) (b.drop 8)

def checkBreaks (b : List Byte) : Option CheckName := checkRanges 16 false none b

def readBreaks (b : List Byte) : List DayRange := (usedCells 16 b).map fun c => ⟨c.1, c.2⟩

/-- The checks of a schedule entry, window by window (R106). -/
def checkWindows : Nat → Bool → Option Nat → List Byte → Option CheckName
  | 0, _, _, _ => none
  | n + 1, gap, last, b =>
      if byteOf b 4 = 0 then checkWindows n true last (b.drop 8)
      else if 10079 < fieldOf b 0 2 ∨ fieldOf b 2 2 < 1 ∨ 10080 < fieldOf b 2 2 then some .windowRange
      else if fieldOf b 2 2 ≤ fieldOf b 0 2 then some .windowOrder
      else if gap then some .windowGap
      else if (match last with | some t => decide (fieldOf b 0 2 ≤ t) | none => false) then some .windowSequence
      else checkWindows n gap (some (fieldOf b 2 2)) (b.drop 8)

def checkSchedule (b : List Byte) : Option CheckName := checkWindows 4 false none b

def readSchedule (b : List Byte) : List Window := (usedCells 4 b).map fun c => ⟨c.1, c.2⟩

/-- A broadcast entry's host fields, present and IDLE (R73). -/
def readBroadcast (b : List Byte) : Broadcast where
  present := true
  live := false
  source := fieldOf b 0 2
  mask := BitVec.ofNat 8 (byteOf b 2)
  urgent := (flagOf (byteOf b 3)).getD false
  endDay := if byteOf b 6 = 0 then none else some (fieldOf b 4 2)
  pending := []

/-- The value checks of a broadcast entry (R73): urgent is a code, end day a day or the absent encoding. -/
def checkBroadcast (b : List Byte) : Option CheckName :=
  if flagOf (byteOf b 3) = none then some .urgent
  else if flagOf (byteOf b 6) = none then some .endDay
  else none

/-- A shelf entry's host fields (section 11.6). -/
def readShelf (b : List Byte) : Shelf :=
  { Shelf.empty with
    configured := byteOf b 0 == 1
    watchFault := byteOf b 1 == 1
    haltOnMatch := byteOf b 2 == 1
    haltOnCheck := byteOf b 3 == 1
    watchMask := maskOf b 0x04
    sourceSelect := maskOf b 0x0a
    override := imageOf (fieldOf b 0x10 12) }

/-- The check of a shelf entry (R130). -/
def checkShelf (b : List Byte) : Option CheckName :=
  if flagOf (byteOf b 0) = none ∨ flagOf (byteOf b 1) = none ∨ flagOf (byteOf b 2) = none
      ∨ flagOf (byteOf b 3) = none then some .shelfFlag
  else none

/-- A written consumer index is valid: counted forward from the index held, it does not pass the producer index
(R194). -/
def consumerGood (u : ReportUnit) (c : Nat) : Bool :=
  decide (c ≤ 255) && decide ((c + (256 - u.consumer % 256)) % 256 ≤ unread u)

def checkConsumer (u : ReportUnit) (b : List Byte) : Option CheckName :=
  if consumerGood u (fieldOf b 0 2) then none else some .consumer

/-- A command's fields (section 11.4). -/
def readCommand (b : List Byte) : Command := ⟨fieldOf b 0 2, (b.drop 4).take 8, BitVec.ofNat 32 (fieldOf b 12 4)⟩

/-- The first failed check of a record covered wholly, its bytes given (R182, R183, R194). -/
def checkRecord (s : State) (a : AreaRecord) (b : List Byte) : Option CheckName :=
  match a with
  | .command => none
  | .consumer => checkConsumer s.reports b
  | .cls _ => checkClass s.transit.regions b
  | .calibration _ => checkCalibration b
  | .breakList => checkBreaks b
  | .schedule _ => checkSchedule b
  | .broadcast i => if (broadcastAt s i).live then some .broadcastLive else checkBroadcast b
  | .shelf _ => checkShelf b

/-- The judgement of a touched record (R182): partial, or its own checks. -/
def judgeRecord (s : State) (line : List Lane) (a : AreaRecord) : Option CheckName :=
  if (areaLanes line a).all (·.enabled) then checkRecord s a (laneData (areaLanes line a)) else some .partialEntry

end Sys2Proof.Machine
end

