-- ==== Sys2Proof/Machine/Loads.lean ====
section
/-! DEFINITION. The loader: its reads and writes (R188, R198), the judgement of what it reads (R20, R48, R49, R53, R73,
R93, R105, R106, R108, R122, R130, R133, R150, R152, R168, R183, R184, R199), and the end of a load (R50, R188). -/

namespace Sys2Proof.Machine

/-- Offsets of the lines of the Control Area the loader reads: step 1, then the six tables of step 2 (R188). -/
def areaLine (i : Nat) : Nat :=
  if i < 3 then i * 0x80
  else if i < 5 then 0x200 + (i - 3) * 0x80
  else if i < 9 then 0x400 + (i - 5) * 0x80
  else if i = 9 then 0x600
  else if i = 10 then 0x700
  else if i < 27 then 0x800 + (i - 11) * 0x80
  else if i < 31 then 0x1000 + (i - 27) * 0x80
  else 0x2000 + (i - 31) * 0x80

/-- Reads of the whole load: 79 lines of the area, 4,096 of the mailbox directory, 16,384 of the slot directory. -/
def loadReads : Nat := 20559

/-- The address of a read by its number. -/
def loadAddr (s : State) (i : Nat) : Nat :=
  if i < 79 then controlBase s + areaLine i
  else if i < 4175 then regionBase s .mailboxDir + (i - 79) * 128
  else regionBase s .slotDir + (i - 4175) * 128

/-- The loader's request: the oldest group of writes, else the next read; reads past step 1 wait for its judgement
(log 18). -/
def loaderGroup (s : State) : Option (List Entry) :=
  if s.part = .loading then
    match s.loader with
    | none => none
    | some l =>
      match l.writes with
      | g :: _ => some g
      | [] =>
          if l.next < loadReads ∧ (l.next < 5 ∨ 5 ≤ l.judged) then
            some [⟨.read, loadAddr s l.next, 16, [], .loadRead l.next⟩]
          else none
  else none

def updateLoader (f : Loader → Loader) (s : State) : State := { s with loader := s.loader.map f }

/-- A group granted: writes leave the waiting list, a read moves to the next. -/
def loaderPlaced (l : Loader) : Loader :=
  match l.writes with
  | _ :: gs => { l with writes := gs }
  | [] => { l with next := l.next + 1 }

/-- A group of writes waits for room. -/
def loaderWrites (g : List Entry) (s : State) : State := updateLoader (fun l => { l with writes := l.writes ++ [g] }) s

def countTable (s : State) : State := { s with counts := { s.counts with tables := s.counts.tables + 1 } }
def countBox (s : State) : State := { s with counts := { s.counts with boxes := s.counts.boxes + 1 } }
def countSlot (s : State) : State := { s with counts := { s.counts with slots := s.counts.slots + 1 } }

/-! ### Step 1 -/

/-- Each header value in range, in the order of section 11.4 (R93, R133, R122, R152, R150). -/
def headerGood (b : List Byte) : Bool :=
  decide (byteOf b 2 ≤ 6) && decide (byteOf b 3 ≤ 1) && (decide (fieldOf b 4 2 ≤ 1439) || fieldOf b 4 2 == 65535)
    && (decide (1 ≤ byteOf b 6) && decide (byteOf b 6 ≤ 30)) && (decide (1 ≤ byteOf b 7) && decide (byteOf b 7 ≤ 60))
    && (decide (200 ≤ fieldOf b 8 2) && decide (fieldOf b 8 2 ≤ 5000))

/-- The header values loaded; one out of range is replaced as its rule gives it (R184). -/
def readHeader (b : List Byte) : Header where
  weekday := if byteOf b 2 ≤ 6 then byteOf b 2 else 0
  dark := byteOf b 3 == 1
  sweepMinute := if fieldOf b 4 2 ≤ 1439 then some (fieldOf b 4 2) else none
  latchIdle := if 1 ≤ byteOf b 6 ∧ byteOf b 6 ≤ 30 then byteOf b 6 else 10
  probeInterval := if 1 ≤ byteOf b 7 ∧ byteOf b 7 ≤ 60 then byteOf b 7 else 5
  replyTimeout := if 200 ≤ fieldOf b 8 2 ∧ fieldOf b 8 2 ≤ 5000 then fieldOf b 8 2 else 1000

def loadHeader (b : List Byte) (s : State) : State :=
  let s' := { s with control := { s.control with header := readHeader b } }
  if headerGood b then s' else countTable s'

/-- An entry of the Region Map as its bytes stand (section 11.5). -/
structure MapEntry where
  kind : Nat
  base : Nat
  size : Nat
deriving DecidableEq, Repr

def readMapEntry (b : List Byte) : MapEntry := ⟨byteOf b 14, fieldOf b 0 8, fieldOf b 8 6⟩

def readMap (b : List Byte) : List MapEntry := (List.range 12).map fun i => readMapEntry ((b.drop (i * 16)).take 16)

def mapKind (e : MapEntry) : Option RegionKind := (regionKindOf e.kind).getD none

def isUsed (e : MapEntry) : Bool := (mapKind e).isSome

/-- The size a kind requires (section 9.2). -/
def requiredSize : RegionKind → Option Nat
  | .mailboxDir => some 524288
  | .slotDir => some 2097152
  | .aliasWindow => some 8589934592
  | .report => some 65536
  | .audio => none
  | .greeting => none

def allowedCount (k : RegionKind) (n : Nat) : Bool :=
  match k with
  | .audio => decide (1 ≤ n) && decide (n ≤ 4)
  | .greeting => decide (1 ≤ n) && decide (n ≤ 4)
  | _ => n == 1

def mapAligned (e : MapEntry) : Bool :=
  e.base % Config.unitBytes == 0 && e.size % Config.unitBytes == 0 && e.size != 0

def mapBounded (e : MapEntry) : Bool := decide (e.base + e.size ≤ Config.spaceBytes)

def mapSized (e : MapEntry) : Bool :=
  match mapKind e with
  | some k => (match requiredSize k with | some n => e.size == n | none => true)
  | none => true

/-- Two spans share a byte. -/
def sharesByte (base size base' size' : Nat) : Bool := decide (base < base' + size') && decide (base' < base + size)

/-- The first entry that shares a byte with the Control Area or a used entry of higher number (R168). -/
def firstOverlap (area : Nat) : Nat → List MapEntry → Option Nat
  | _, [] => none
  | i, e :: es =>
      if isUsed e && (sharesByte e.base e.size area Config.unitBytes
          || es.any fun x => isUsed x && sharesByte e.base e.size x.base x.size) then some i
      else firstOverlap area (i + 1) es

/-- The kinds in the order of section 9.2 (log 36). -/
def allKinds : List RegionKind := [.mailboxDir, .slotDir, .audio, .greeting, .aliasWindow, .report]

/-- The first failed check of the Region Map, with the entry it names (R168). -/
def mapFailure (area : Nat) (es : List MapEntry) : Option (Option Nat × MapCheck) :=
  match lowest (fun e => (regionKindOf e.kind).isNone) es with
  | some i => some (some i, .kind)
  | none =>
  match lowest (fun e => isUsed e && !mapAligned e) es with
  | some i => some (some i, .align)
  | none =>
  match lowest (fun e => isUsed e && !mapBounded e) es with
  | some i => some (some i, .bound)
  | none =>
  match lowest (fun e => isUsed e && !mapSized e) es with
  | some i => some (some i, .size)
  | none =>
  match allKinds.find? (fun k => !allowedCount k (es.countP fun e => mapKind e == some k)) with
  | some k => some (lowest (fun e => mapKind e == some k) es, .count)
  | none =>
  match firstOverlap area 0 es with
  | some i => some (some i, .overlap)
  | none => none

/-- The used entries, as the shadow holds them (R167). -/
def mapRegions (es : List MapEntry) : List Region :=
  es.filterMap fun e => (mapKind e).map fun k => ⟨k, e.base, e.size⟩

/-- The consumer index read in step 1; one above 255 is loaded as 0, repaired and counted (R188, R198). -/
def loadConsumer (index : Nat) (s : State) : State :=
  if index ≤ 255 then updateLoader (fun l => { l with consumer := index }) s
  else countTable (loaderWrites
    [⟨.write, controlBase s + 0xc0, 1, [live 0, live 0, dead, dead, dead, dead, dead, dead], .loadWrite⟩]
    (updateLoader (fun l => { l with consumer := 0 }) s))

/-- Step 1 judged on its five lines: version, header values, map, then the consumer index (R184, R188, log 26). -/
def loadStepOne (b : List Byte) (s : State) : State :=
  if fieldOf b 0 2 ≠ 3 then failLoad (.version (fieldOf b 0 2)) s
  else
    let s' := loadHeader b s
    let map := readMap (b.drop 384)
    match mapFailure (controlBase s) map with
    | some (entry, check) => failLoad (.map entry check) s'
    | none => loadConsumer (fieldOf b 192 2) { s' with transit := { s'.transit with regions := mapRegions map } }

/-! ### Step 2 -/

def loadClass (i : Nat) (b : List Byte) (s : State) : State :=
  match checkClass s.transit.regions b with
  | none => { s with control := { s.control with classes := s.control.classes.setIfInBounds i (readClass b) } }
  | some _ =>
      countTable { s with control :=
        { s.control with classes := s.control.classes.setIfInBounds i ClassEntry.default } }

def loadCalibration (i : Nat) (b : List Byte) (s : State) : State :=
  match checkCalibration b with
  | none => { s with deposit :=
      { s.deposit with calibration := s.deposit.calibration.setIfInBounds i (readCalibration b) } }
  | some _ => countTable { s with deposit :=
      { s.deposit with calibration := s.deposit.calibration.setIfInBounds i Calibration.default } }

def loadBreaks (b : List Byte) (s : State) : State :=
  match checkBreaks b with
  | none => { s with greetings := { s.greetings with breaks := readBreaks b } }
  | some _ => countTable { s with greetings := { s.greetings with breaks := [] } }

def loadSchedule (i : Nat) (b : List Byte) (s : State) : State :=
  match checkSchedule b with
  | none => { s with greetings :=
      { s.greetings with schedules := s.greetings.schedules.setIfInBounds i (readSchedule b) } }
  | some _ => countTable { s with greetings :=
      { s.greetings with schedules := s.greetings.schedules.setIfInBounds i [] } }

def loadBroadcast (i : Nat) (b : List Byte) (s : State) : State :=
  match checkBroadcast b with
  | none => putBroadcast i (readBroadcast b) s
  | some _ => countTable (putBroadcast i Broadcast.absent s)

/-- A shelf entry read: its dirty membership waits for the end of the load (R129, R130). -/
def loadShelf (i : Nat) (b : List Byte) (s : State) : State :=
  match checkShelf b with
  | none => { s with lamps := { s.lamps with shelves := s.lamps.shelves.setIfInBounds i (readShelf b) } }
  | some _ => countTable { s with lamps := { s.lamps with shelves := s.lamps.shelves.setIfInBounds i Shelf.empty } }

/-! ### Step 3: mailbox records -/

/-- A mailbox record's host fields as its bytes stand; an unknown status is judged before the record is used. -/
def readBox (b : List Byte) : MailboxRec :=
  { MailboxRec.empty with
    status := (statusOf (byteOf b 0)).getD .unassigned
    cls := byteOf b 1
    capacity := byteOf b 2
    schedule := byteOf b 3
    lampShelf := byteOf b 4
    lampNumber := byteOf b 5
    extension := fieldOf b 8 4
    absenceDay := fieldOf b 12 2
    absenceMinute := fieldOf b 14 2
    primary := locatorAt b 16
    afterHours := locatorAt b 20
    onBreak := locatorAt b 24
    absence := locatorAt b 28 }

/-- The fields that fail the value checks of R28 (R48). -/
def boxFaults (regions : List Region) (b : List Byte) : List FieldName :=
  ([(.status, (statusOf (byteOf b 0)).isSome), (.cls, classGood (byteOf b 1)), (.capacity, capacityGood (byteOf b 2)),
    (.lamp, lampGood (fieldOf b 4 2)), (.schedule, scheduleGood (byteOf b 3)),
    (.primary, locatorGood regions (locatorAt b 16)), (.afterHours, locatorGood regions (locatorAt b 20)),
    (.onBreak, locatorGood regions (locatorAt b 24)), (.absence, locatorGood regions (locatorAt b 28)),
    (.absenceUntil, absenceGood (fieldOf b 12 4)), (.extension, extensionGood (fieldOf b 8 4))]
    : List (FieldName × Bool)).filterMap fun f => if f.2 then none else some f.1

/-- Offset and size of a field of the mailbox record (section 11.3). -/
def fieldSpan : FieldName → Nat × Nat
  | .status => (0, 1)
  | .cls => (1, 1)
  | .capacity => (2, 1)
  | .schedule => (3, 1)
  | .lamp => (4, 2)
  | .extension => (8, 4)
  | .absenceUntil => (12, 4)
  | .primary => (16, 4)
  | .afterHours => (20, 4)
  | .onBreak => (24, 4)
  | .absence => (28, 4)
  | _ => (0, 0)

/-- An absent locator in place of a failed one; its first-block bytes are a free value (log 13). -/
def absentLocator (m which index : Nat) : Locator := ⟨unmeantNat (.locatorBlock m which) index 3, 0⟩

/-- A failed field replaced by its default (R48). -/
def replaceField (m index : Nat) (f : FieldName) (b : MailboxRec) : MailboxRec :=
  match f with
  | .cls => { b with cls := 0 }
  | .capacity => { b with capacity := 1 }
  | .schedule => { b with schedule := 255 }
  | .lamp => { b with lampShelf := 255, lampNumber := 255 }
  | .extension => { b with extension := 0 }
  | .absenceUntil => { b with absenceDay := unmeantNat (.absenceDay m) index 2, absenceMinute := 65535 }
  | .primary => { b with primary := absentLocator m 0 index }
  | .afterHours => { b with afterHours := absentLocator m 1 index }
  | .onBreak => { b with onBreak := absentLocator m 2 index }
  | .absence => { b with absence := absentLocator m 3 index }
  | _ => b

def replaceFields (m index : Nat) : List FieldName → MailboxRec → MailboxRec
  | [], b => b
  | f :: fs, b => replaceFields m index fs (replaceField m index f b)

/-- The record as it enters the shadow: set aside as UNASSIGNED when a field failed (R48). -/
def setAsideBox (m index : Nat) (faults : List FieldName) (b : MailboxRec) : MailboxRec :=
  if faults = [] then b else { replaceFields m index faults b with status := .unassigned }

/-- The host bytes 00h to 1Fh of a mailbox record (section 11.3); the acknowledge and spare bytes stand as zero. -/
def boxBytes (b : MailboxRec) : List Byte :=
  leBytes 1 (statusCode b.status) ++ leBytes 1 b.cls ++ leBytes 1 b.capacity ++ leBytes 1 b.schedule
    ++ leBytes 1 b.lampShelf ++ leBytes 1 b.lampNumber ++ zeros 2 ++ leBytes 4 b.extension ++ leBytes 2 b.absenceDay
    ++ leBytes 2 b.absenceMinute ++ leBytes 4 (locatorNat b.primary) ++ leBytes 4 (locatorNat b.afterHours)
    ++ leBytes 4 (locatorNat b.onBreak) ++ leBytes 4 (locatorNat b.absence)

def inSpans (spans : List (Nat × Nat)) (k : Nat) : Bool :=
  spans.any fun p => decide (p.1 ≤ k) && decide (k < p.1 + p.2)

/-- The word behind the last repaired byte. -/
def wordsSpanned (spans : List (Nat × Nat)) : Nat :=
  spans.foldl (fun w p => if w < (p.1 + p.2 + 7) / 8 then (p.1 + p.2 + 7) / 8 else w) 0

/-- A mailbox repair write: the words from the first to the last byte repaired, the repaired bytes enabled (R198). Both
repairs begin in the record's first word. -/
def repairEntry (base m : Nat) (fields : List FieldName) (b : MailboxRec) : Entry :=
  let spans := fields.map fieldSpan
  ⟨.write, base + m * 64, wordsSpanned spans,
    (List.range (8 * wordsSpanned spans)).map fun k =>
      if inSpans spans k then live (BitVec.ofNat 8 (byteOf (boxBytes b) k)) else dead, .loadWrite⟩

/-- A mailbox record loaded (R48, R49). -/
def loadBox (m : Nat) (bytes : List Byte) (s : State) : State :=
  let base := regionBase s .mailboxDir
  let faults := boxFaults s.transit.regions bytes
  let b := setAsideBox m s.transit.joined faults (readBox bytes)
  let clash := match lampPosition b with | some p => (holderAt s p).isSome | none => false
  let b' := if clash then { b with lampShelf := 255, lampNumber := 255 } else b
  let s1 := putBox m b' s
  let s2 := match lampPosition b' with | some p => putHolder p (some m) s1 | none => s1
  let s3 := if faults = [] then s2 else loaderWrites [repairEntry base m (.status :: faults) b] s2
  let s4 := if clash then loaderWrites [repairEntry base m [.lamp] b'] s3 else s3
  if faults = [] ∧ clash = false then s4 else countBox s4

/-! ### Step 4: slot records -/

/-- The stamped bytes as the shadow holds them (R199). -/
def readStamps (b : List Byte) (r : SlotRec) : SlotRec :=
  { r with
    stamp := ⟨fieldOf b 8 2, if 1439 < fieldOf b 10 2 then 1439 else fieldOf b 10 2,
      if 59 < byteOf b 12 then 59 else byteOf b 12, byteOf b 13 != 0⟩
    expiry := if byteOf b 16 = 0 then .absent (some (fieldOf b 14 2)) else .on (fieldOf b 14 2)
    verdict := verdictOf (byteOf b 17)
    level := ⟨if 32767 < fieldOf b 18 2 then 32767 else fieldOf b 18 2, fieldOf b 20 2, fieldOf b 22 2⟩ }

/-- A slot record is set aside (R20). -/
def slotBad (s : State) (b : List Byte) : Bool :=
  (slotStateOf (byteOf b 2)).isNone || decide (8191 < fieldOf b 0 2) || decide (3 < byteOf b 4)
    || (flagOf (byteOf b 3)).isNone
    || (slotStateOf (byteOf b 2) != some .free && (boxAt s (fieldOf b 0 2)).status == .unassigned)

/-- The record as it enters the shadow: its host fields in range, FREE when set aside (R20). -/
def readSlot (bad : Bool) (b : List Byte) : SlotRec :=
  readStamps b { SlotRec.empty with
    owner := if fieldOf b 0 2 ≤ 8191 then fieldOf b 0 2 else 0
    state := if bad then .free else (slotStateOf (byteOf b 2)).getD .free
    urgent := (flagOf (byteOf b 3)).getD false
    source := if byteOf b 4 ≤ 3 then byteOf b 4 else 0
    firstBlock := fieldOf b 5 3 }

/-- The expiry of a slot found RECORDING: absent, its day bytes as held (R199). -/
def madeAbsent : Expiry → Expiry
  | .on day => .absent (some day)
  | e => e

/-- A slot repair write: the owner, state, urgent and source bytes of the record's first word (R20, R198). -/
def slotRepair (base n : Nat) (r : SlotRec) : Entry :=
  ⟨.write, base + n * 32, 1,
    (leBytes 2 r.owner ++ leBytes 1 (slotStateCode r.state) ++ [yesNo r.urgent] ++ leBytes 1 r.source).map live
      ++ [dead, dead, dead], .loadWrite⟩

/-- A slot record loaded (R20). -/
def loadSlot (n : Nat) (bytes : List Byte) (s : State) : State :=
  let base := regionBase s .slotDir
  let r := readSlot (slotBad s bytes) bytes
  if slotBad s bytes then countSlot (loaderWrites [slotRepair base n r] (putSlot n r s))
  else if r.state = .recording then
    let r' := { r with state := .discarded, verdict := .load, expiry := madeAbsent r.expiry }
    loaderWrites [stampEntry base n s.transit.joined r' .loadWrite, stateEntry base n r' .loadWrite] (putSlot n r' s)
  else putSlot n r s

/-! ### A read answered -/

/-- The records of a line judged in ascending order. -/
def loadRecords (f : Nat → List Byte → State → State) (first size : Nat) (data : List Byte) : List Nat → State → State
  | [], s => s
  | i :: is, s => loadRecords f first size data is (f (first + i) ((data.drop (i * size)).take size) s)

/-- The data of the loader's read `i` is judged (R188). -/
def judgeLine (i : Nat) (data : List Byte) (s : State) : State :=
  if i < 4 then updateLoader (fun l => { l with lines := l.lines ++ data }) s
  else if i = 4 then
    loadStepOne (((s.loader.map (·.lines)).getD []) ++ data) (updateLoader (fun l => { l with lines := [] }) s)
  else if i < 9 then loadRecords loadClass ((i - 5) * 2) 64 data (List.range 2) s
  else if i = 9 then loadRecords loadCalibration 0 16 data (List.range 4) s
  else if i = 10 then loadBreaks data s
  else if i < 27 then loadRecords loadSchedule ((i - 11) * 4) 32 data (List.range 4) s
  else if i < 31 then loadRecords loadBroadcast ((i - 27) * 4) 32 data (List.range 4) s
  else if i < 79 then loadRecords loadShelf ((i - 31) * 4) 32 data (List.range 4) s
  else if i < 4175 then loadRecords loadBox ((i - 79) * 2) 64 data (List.range 2) s
  else loadRecords loadSlot ((i - 4175) * 4) 32 data (List.range 4) s

def loaderAnswered (i : Nat) (data : List Byte) (s : State) : State :=
  judgeLine i (fitBytes 128 data) (updateLoader (fun l => { l with judged := l.judged + 1 }) s)

/-! ### The end of a load -/

def isLoaderEntry (e : Entry) : Bool :=
  match e.origin with
  | .loadRead _ => true
  | .loadWrite => true
  | _ => false

/-- Every read and write of steps 1 to 4 has been answered (R188); a report write awaiting its answer is waited for as
well (log 21). -/
def loadComplete (s : State) : Bool :=
  match s.loader with
  | some l => s.part == .loading && l.judged == loadReads && l.writes.isEmpty && !s.transit.queue.any isLoaderEntry
      && s.reports.writing.isNone
  | none => false

/-- One slot counted into its owner's counts and queues (R50). -/
def buildSlot (n : Nat) (s : State) : State :=
  let r := slotAt s n
  if r.state = .free then s else putBox r.owner (ownerAfter s n SlotRec.empty r (boxAt s r.owner)) s

/-- A mailbox's flag and mode, passed to the Lamp Composer (R50). -/
def buildBox (m : Nat) (s : State) : State :=
  let b := derived s (boxAt s m)
  let s' := putBox m b s
  match lampPosition b with
  | some p => mapLamp p (some b.mode) s'
  | none => s'

/-- A shelf entry composed; a configured one is PROBING with its probe moment now (R143, R188). -/
def buildShelf (e : Nat) (s : State) : State :=
  updateShelf e (fun sh => recomposed (isDark s) { sh with
    lastSent := none
    link := if sh.configured then .probing else .unconfigured
    probeAt := if sh.configured then some s.now else none }) s

/-- Step 5 (R188). -/
def buildDerived (s : State) : State :=
  let s1 := forEach buildSlot (s.slots.map (·.1)) s
  let s2 := forEach buildBox (s1.boxes.map (·.1)) s1
  forEach buildShelf (List.range 192) s2

/-- Steps 6 and 7 (R188), and PROC_STOPPED when PRUN is low (R197). Reports of LOADING not yet asked for are dropped
(log 44), so that LOAD_DONE, behind a RESTART's COMMAND_DONE, is the first report written after the load. -/
def enterRunning (s : State) : State :=
  let consumer := (s.loader.map (·.consumer)).getD 0
  let s1 := { s with
    part := .running
    transit := { s.transit with turn := .upstream }
    reports := { dropHeld s.reports with
      producer := consumer, consumer := consumer, dropped := false, base := some (regionBase s .report) }
    restartTag := none
    loader := none }
  let s2 := match s.restartTag with
    | some tag => commandDone ⟨1, [], tag⟩ .accepted 0 s1
    | none => s1
  let s3 := makeReport (.loadDone s.counts.tables s.counts.boxes s.counts.slots) none none none none s2
  if s.prun then s3 else makeReport (.procStopped s.control.header.dark) none none none none s3

/-- The end of a load, when it is complete (R188). -/
def finishLoad (s : State) : State := if loadComplete s then enterRunning (buildDerived s) else s

end Sys2Proof.Machine
end

