-- ==== Sys2Proof/Machine/Controls.lean ====
section
/-! DEFINITION. The Control and Report Unit's treatment of Control Area traffic (R181, R182, R185, R186), the effects of
its records, and the report writes (R193). -/

namespace Sys2Proof.Machine

/-! ### Effects of records -/

/-- A valid class entry (R127): the policies change and every mailbox of the class has its mode derived afresh. -/
def writeClass (i : Nat) (c : ClassEntry) (s : State) : State :=
  let s' := { s with control := { s.control with classes := s.control.classes.setIfInBounds i c } }
  forEach (fun m => updateBox m id) ((s.boxes.filter fun e => e.2.cls == i).map (·.1)) s'

/-- A valid calibration entry (R53). -/
def writeCalibration (i : Nat) (c : Calibration) (s : State) : State :=
  { s with deposit := { s.deposit with calibration := s.deposit.calibration.setIfInBounds i c } }

/-- A valid Break List (R108). -/
def writeBreaks (ranges : List DayRange) (s : State) : State :=
  { s with greetings := { s.greetings with breaks := ranges } }

/-- A valid schedule entry (R106). -/
def writeSchedule (i : Nat) (ws : List Window) (s : State) : State :=
  { s with greetings := { s.greetings with schedules := s.greetings.schedules.setIfInBounds i ws } }

/-- An accepted consumer index; a ring left with no unread record clears the dropped flag (R194), also when the ring was
empty before the write (log 42). -/
def takeConsumer (c : Nat) (s : State) : State :=
  let u := { s.reports with consumer := c }
  { s with reports := { u with dropped := u.dropped && decide (unread u ≠ 0) } }

/-- The error latch emptied (R186, R195). -/
def clearLatch (s : State) : State := { s with reports := { s.reports with latch := none } }

/-- A command taken while RUNNING (R185). RESTART's tag is kept (R191); its entry to LOADING waits for the records behind
it (R182, `acceptArea`). -/
def takeCommand (c : Command) (s : State) : State :=
  let s' := { s with control := { s.control with command := some c } }
  match c.code with
  | 1 => { s' with restartTag := some c.tag }
  | 2 => commandSweep c s'
  | 3 => commandClock c s'
  | 4 => commandPost c (fieldOf c.argument 0 4) s'
  | 5 => commandWithdraw c (fieldOf c.argument 0 4) s'
  | 6 => commandRefresh c s'
  | _ => commandDone c .badCommand 0 s'

/-- A record's effect (R182). -/
def takeRecord (b : List Byte) (a : AreaRecord) (s : State) : State :=
  match a with
  | .command => takeCommand (readCommand b) s
  | .consumer => takeConsumer (fieldOf b 0 2) s
  | .cls i => writeClass i (readClass b) s
  | .calibration i => writeCalibration i (readCalibration b) s
  | .breakList => writeBreaks (readBreaks b) s
  | .schedule i => writeSchedule i (readSchedule b) s
  | .broadcast i => putBroadcast i (readBroadcast b) s
  | .shelf i => writeShelf i (readShelf b) s

/-- The records of a transaction take effect in ascending address (R182). -/
def takeRecords (line : List Lane) : List AreaRecord → State → State
  | [], s => s
  | a :: as, s => takeRecords line as (takeRecord (laneData (areaLanes line a)) a s)

/-- The command a write covers whole with every byte enabled. -/
def writtenCommand (line : List Lane) (records : List AreaRecord) : Option Command :=
  if AreaRecord.command ∈ records ∧ (areaLanes line .command).all (·.enabled) then
    some (readCommand (laneData (areaLanes line .command)))
  else none

/-! ### A write of the area while RUNNING -/

/-- The status record's bytes are withheld without report (R182): the line at 0100h, bytes 00h to 3Fh. -/
def withholdStatus (offset : Nat) (line : List Lane) : List Lane :=
  if offset / 128 = 2 then withhold 0 64 line else line

/-- The clearing write: zero to the whole code word, both bytes enabled (R186, section 11.4). -/
def clearsLatch (offset : Nat) (line : List Lane) : Bool :=
  offset / 128 == 2 && ((line.drop 16).take 2).all (·.enabled) && fieldOf (laneData line) 16 2 == 0

/-- The shelf entry a refusal names (R182). -/
def refusalShelf : AreaRecord → Option Nat
  | .shelf i => some i
  | _ => none

/-- One CONFIG_REFUSED for each failed record, ascending (R182). -/
def reportRefusals (area : Nat) : List (AreaRecord × CheckName) → State → State
  | [], s => s
  | (a, check) :: fs, s =>
      reportRefusals area fs
        (makeReport (.configRefused (area + recordOffset a) (recordKind a) check) none none (refusalShelf a) none s)

/-- The records that fail, with their checks. -/
def failedRecords (s : State) (line : List Lane) (records : List AreaRecord) : List (AreaRecord × CheckName) :=
  records.filterMap fun a => (judgeRecord s line a).map fun c => (a, c)

/-- The response of a transaction answered REFUSED; a refused READ returns zero in every byte (section 9.1). -/
def refusal (t : HostTxn) : Response :=
  ⟨.refused, match t with | .read _ => zeros (txnBytes t) | .write _ => []⟩

/-- The write carries RESTART. -/
def writesRestart (line : List Lane) (records : List AreaRecord) : Bool :=
  match writtenCommand line records with
  | some c => c.code == 1
  | none => false

/-- An accepted Control Area write: forwarded with the status bytes withheld, then its records take effect in
ascending address; a RESTART among them enters LOADING after the others (R182). -/
def acceptArea (offset : Nat) (line : List Lane) (records : List AreaRecord) (w : HostWrite) (s : State) : State :=
  let s1 := joinOrder none (place [hostWriteEntry w (linePart w (withholdStatus offset line)) false] s)
  let s2 := takeRecords line records (if clearsLatch offset line then clearLatch s1 else s1)
  if writesRestart line records then enterLoading s2 else s2

/-- A WRITE into the Control Area while RUNNING (R182); `offset` is that of its first byte. -/
def writeArea (offset : Nat) (w : HostWrite) (s : State) : State :=
  let line := lineLanes w
  let records := touchedRecords offset w.words.toNat
  match failedRecords s line records with
  | [] => acceptArea offset line records w s
  | failed => joinOrder (some (refusal (.write w))) (reportRefusals (controlBase s) failed s)

/-- A WRITE into the Control Area in FAILED: PLAIN, but a whole command record carrying RESTART is taken (R181, R185). -/
def writeAreaFailed (offset : Nat) (w : HostWrite) (s : State) : State :=
  let s' := joinOrder none (place [hostWriteEntry w (writeLanes w) false] s)
  if writesRestart (lineLanes w) (touchedRecords offset w.words.toNat) then
    enterLoading { s' with restartTag := none }
  else s'

/-- The overlay of a line of the area (R186). -/
def areaOverlay (offset : Nat) (s : State) : List (Option Byte) :=
  if offset / 128 = 2 then (statusBytes s.transit.joined s).map some ++ List.replicate 64 none
  else List.replicate 128 none

/-- A READ of the Control Area while RUNNING or FAILED (R181, R186). -/
def readArea (offset : Nat) (r : HostRead) (s : State) : State :=
  joinOrder none (place [hostReadEntry r (overlayPart r (areaOverlay offset s))] s)

/-! ### Report writes -/

/-- The unit asks for room: a report held, none awaiting its answer, and the ring's base known (R190, R193). -/
def asksReportWrite (s : State) : Bool :=
  s.part != .reset && !s.reports.held.isEmpty && s.reports.writing.isNone && s.reports.base.isSome

/-- A report write: four words at the ring entry of the producer index, every byte enabled (R193, R198). -/
def reportEntry (base index producer : Nat) (r : Report) : Entry :=
  ⟨.write, base + producer * 32, 4, (reportBytes index r).map live, .report⟩

/-- The oldest held report is written to the ring (R193). -/
def writeReport (s : State) : State :=
  match s.reports.held, s.reports.base with
  | r :: held, some base =>
      place [reportEntry base s.transit.joined s.reports.producer r]
        { s with reports := { s.reports with held := held, writing := some r } }
  | _, _ => s

/-- The answer to a report write (R193): DONE advances the producer index, MEMFAULT drops the report. -/
def reportAnswered (fault : Bool) (s : State) : State :=
  match s.reports.writing with
  | none => s
  | some _ =>
      if fault then { s with reports := { s.reports with writing := none, dropped := true } }
      else { s with reports := { s.reports with writing := none, producer := (s.reports.producer + 1) % 256 } }

end Sys2Proof.Machine
end

