-- ==== Sys2Proof/Machine/Transits.lean ====
section
/-! DEFINITION. The Transit Unit: classification and treatment of host transactions (R165, R166, R170, R180), room and
its arbiter (R174, R175), the response order (R176), and memory's answers (R177 to R179). -/

namespace Sys2Proof.Machine

/-! ### Classification -/

/-- The offset of an address in the Control Area, if it lies there (R167). -/
def areaOffset (s : State) (addr : Nat) : Option Nat :=
  if controlBase s ≤ addr ∧ addr < controlBase s + Config.unitBytes then some (addr - controlBase s) else none

/-- The used region of the shadow an address lies in (R170). -/
def regionOf (s : State) (addr : Nat) : Option Region :=
  s.transit.regions.find? fun r => decide (r.base ≤ addr) && decide (addr < r.base + r.size)

def txnFault (t : HostTxn) : Option FormFault := formFault (txnAddr t) (txnWords t)

/-- A transaction forwarded unchanged (R170, R180). -/
def forwardPlain (t : HostTxn) (s : State) : State :=
  joinOrder none (place [match t with
    | .read r => hostReadEntry r []
    | .write w => hostWriteEntry w (writeLanes w) false] s)

/-- A transaction answered REFUSED, with nothing forwarded (R166). -/
def refuseTxn (t : HostTxn) (s : State) : State := joinOrder (some (refusal t)) s

/-- A misformed transaction (R165): refused, and reported while RUNNING. -/
def takeMisformed (t : HostTxn) (fault : FormFault) (s : State) : State :=
  let s' := refuseTxn t s
  if s.part = .running then
    makeReport (.linkMisformed (txnAddr t) (txnKind t) (txnWords t) fault) none none none none s'
  else s'

/-- A write refused because its block is in play (R125). -/
def refuseInPlay (w : HostWrite) (l : Latch) (s : State) : State :=
  makeReport (.greetingInPlay w.addr.toNat l.lane) (some l.mailbox) none none none (refuseTxn (.write w) s)

/-- An AUDIO or GREETING write judged against the held pieces first (R125). -/
def guardedWrite (w : HostWrite) (go : State → State) (s : State) : State :=
  match latchInPlay s w.addr.toNat with
  | some l => refuseInPlay w l s
  | none => go s

/-- The treatment of a READ by its region's kind while RUNNING (R170). -/
def readRegion (g : Region) (r : HostRead) (s : State) : State :=
  match g.kind with
  | .mailboxDir => joinOrder none (mailboxDirRead g.base r s)
  | .slotDir => joinOrder none (slotDirRead g.base r s)
  | .aliasWindow => readAlias g.base r s
  | .audio => forwardPlain (.read r) s
  | .greeting => forwardPlain (.read r) s
  | .report => forwardPlain (.read r) s

/-- The treatment of a WRITE by its region's kind while RUNNING (R170). -/
def writeRegion (g : Region) (w : HostWrite) (s : State) : State :=
  match g.kind with
  | .mailboxDir => joinOrder none (mailboxDirWrite g.base w s)
  | .slotDir => joinOrder none (slotDirWrite g.base w s)
  | .audio => guardedWrite w (fun s => joinOrder none (audioWrite w s)) s
  | .greeting => guardedWrite w (forwardPlain (.write w)) s
  | .aliasWindow => makeReport (.aliasWrite w.addr.toNat) none none none none (refuseTxn (.write w) s)
  | .report =>
      makeReport (.configRefused w.addr.toNat .reportRegion .reportRegion) none none none none (refuseTxn (.write w) s)

/-- A transaction into the Control Area while RUNNING (R181). -/
def takeArea (offset : Nat) (t : HostTxn) (s : State) : State :=
  match t with
  | .read r => readArea offset r s
  | .write w => writeArea offset w s

/-- A transaction into a used region while RUNNING (R170). -/
def takeRegion (g : Region) (t : HostTxn) (s : State) : State :=
  match t with
  | .read r => readRegion g r s
  | .write w => writeRegion g w s

/-- A well-formed transaction while RUNNING (R170). -/
def takeRunning (t : HostTxn) (s : State) : State :=
  match areaOffset s (txnAddr t) with
  | some offset => takeArea offset t s
  | none =>
      match regionOf s (txnAddr t) with
      | some g => takeRegion g t s
      | none => forwardPlain t s

/-- A transaction into the Control Area in FAILED (R181). -/
def takeAreaFailed (offset : Nat) (t : HostTxn) (s : State) : State :=
  match t with
  | .read r => readArea offset r s
  | .write w => writeAreaFailed offset w s

/-- A well-formed transaction in FAILED (R180, R181). -/
def takeFailed (t : HostTxn) (s : State) : State :=
  match areaOffset s (txnAddr t) with
  | some offset => takeAreaFailed offset t s
  | none => forwardPlain t s

/-- A host transaction is taken: its form is judged first, then it is treated by the part state (R165, R170, R180). -/
def takeTxn (t : HostTxn) (s : State) : State :=
  match txnFault t with
  | some fault => takeMisformed t fault s
  | none =>
      match s.part with
      | .running => takeRunning t s
      | .failed => takeFailed t s
      | .reset => forwardPlain t s
      | .loading => s

/-! ### Room and turns -/

/-- The room a host transaction asks, judged from its address, kind and length: none asks no grant (R174). -/
def roomAsked (s : State) (t : HostTxn) : Option Nat :=
  if (txnFault t).isSome then none
  else if s.part = .running ∧ (areaOffset s (txnAddr t)).isNone then
    match t, ((regionOf s (txnAddr t)).map (·.kind) : Option RegionKind) with
    | .write _, some .slotDir => some (1 + (coveredRecords (txnAddr t) (txnWords t) 32).length)
    | .write _, some .aliasWindow => none
    | .write _, some .report => none
    | _, _ => some 1
  else some 1

/-- The port takes nothing in LOADING, nor while the response order holds 64 (R176, R180). -/
def portOpen (s : State) : Bool := s.part != .loading && decide (s.transit.order.length < Config.orderPlaces)

/-- The room a requester's waiting request asks (R174, R175); none when it has no request. -/
def request (s : State) : Requester → Option Nat
  | .upstream =>
      match s.transit.arrivals with
      | t :: _ => if portOpen s then roomAsked s t else none
      | [] => none
  | .deposit => if s.part = .running ∧ s.deposit.claims ≠ [] then some 2 else none
  | .sweep => if s.part = .running ∧ s.sweep.active ∧ s.sweep.step = .visiting then some 1 else none
  | .control => if asksReportWrite s then some 1 else none
  | .loader => (loaderGroup s).map List.length

/-- The first requester from one on, in rotation, that has a request waiting (R175). -/
def seekTurn (s : State) : Nat → Requester → Option Requester
  | 0, _ => none
  | n + 1, q => if (request s q).isSome then some q else seekTurn s n (nextRequester q)

/-- A requester with no request waiting is passed over, and under RESET the turn is the upstream port's (R175). With none
waiting the turn stays where it is, the model's choice (log 40). -/
def passTurn (s : State) : State :=
  setTurn (if s.part = .reset then .upstream else (seekTurn s 5 s.transit.turn).getD s.transit.turn) s

/-- A request is granted: its requester holds the turn and the free room covers it (R175). -/
def isGranted (q : Requester) (s : State) : Bool :=
  s.transit.turn == q && (match request s q with | some n => decide (n ≤ freeRoom s) | none => false)

/-- The turn passes on from a requester that has been granted (R175): to the next in the rotation, which `passTurn` moves
on to the next that has a request. With no request waiting it rests at the next in the rotation, the model's choice
(log 40). -/
def grantTo (q : Requester) (go : State → State) (s : State) : State :=
  if isGranted q (passTurn s) then go (setTurn (nextRequester q) (passTurn s)) else s

/-! ### Responses and acceptance -/

/-- Fixed responses at the front of the order are returned upstream (R176). -/
def returnResponses : List (Option Response) → List Response → List (Option Response) × List Response
  | some r :: order, returned => returnResponses order (returned ++ [r])
  | order, returned => (order, returned)

def returned (s : State) : State :=
  let x := returnResponses s.transit.order s.transit.returned
  { s with transit := { s.transit with order := x.1, returned := x.2 } }

/-- After each thing taken: free links choose (R151), responses are returned (R176), the turn passes over requesters
with no request (R175). -/
def calm (s : State) : State := passTurn (returned (chooseLinks s))

/-- The head of arrivals can be accepted (R176). -/
def acceptable (s : State) : Bool :=
  portOpen s && (match s.transit.arrivals with
    | t :: _ => (roomAsked s t).isNone || isGranted .upstream s
    | [] => false)

/-- The head of arrivals is accepted and taken (R176). A grant passes the turn to the next in the rotation (R175, log 40);
under RESET the turn is the port's again as the part comes to rest (`passTurn`). -/
def acceptHead (s : State) : State :=
  match s.transit.arrivals with
  | [] => s
  | t :: rest =>
      let s' := { s with transit := { s.transit with arrivals := rest } }
      takeTxn t (if (roomAsked s t).isSome then setTurn (nextRequester .upstream) s' else s')

/-- Arrivals are taken in order as long as the head can be accepted. -/
def serve : Nat → State → State
  | 0, s => s
  | n + 1, s => if acceptable s then serve n (calm (acceptHead s)) else s

/-- The part comes to rest after one thing taken: links, responses, turn, then the arrivals it can accept (log 2). -/
def settle (s : State) : State := serve (calm s).transit.arrivals.length (calm s)

/-- A host transaction arrives at the upstream port (R176). -/
def hostArrives (t : HostTxn) (s : State) : State :=
  settle { s with transit := { s.transit with arrivals := s.transit.arrivals ++ [t] } }

/-! ### Memory's answers -/

/-- The oldest response not yet fixed is fixed (R176, R177). -/
def fixFirst (r : Response) : List (Option Response) → List (Option Response)
  | [] => []
  | none :: order => some r :: order
  | some x :: order => some x :: fixFirst r order

def fixResponse (r : Response) (s : State) : State :=
  { s with transit := { s.transit with order := fixFirst r s.transit.order } }

/-- The data a READ returns: zero in every byte on MEMFAULT, else memory's data under the overlay (R166, R172). -/
def readData (e : Entry) (overlay : List (Option Byte)) (m : MemAnswer) : List Byte :=
  match e.kind with
  | .write => []
  | .read => if m.fault then zeros (8 * e.words) else overlaid overlay (fitBytes (8 * e.words) m.data)

/-- The status of a forwarded transaction's response (R166). -/
def answerStatus (adjusted fault : Bool) : ResponseStatus :=
  if fault then .memFault else if adjusted then .adjusted else .done

/-- The mailbox and slot a MEMFAULT report names: those of the lowest record covered, when the address lies in a
directory (R178). -/
def faultNames (s : State) (addr : Nat) : Option Nat × Option Nat :=
  match s.part, regionOf s addr with
  | .running, some ⟨.slotDir, base, _⟩ => (some (slotAt s ((addr - base) / 32)).owner, some ((addr - base) / 32))
  | .running, some ⟨.mailboxDir, base, _⟩ => (some ((addr - base) / 64), none)
  | _, _ => (none, none)

/-- A MEMFAULT error for a forwarded host transaction (R178). -/
def reportHostFault (e : Entry) (origin : Originator) (s : State) : State :=
  makeReport (.memFault e.addr e.kind origin) (faultNames s e.addr).1 (faultNames s e.addr).2 none none s

/-- A MEMFAULT error for a stamp or state write: its address and slot, with the owner while the shadow holds it
(R179). -/
def reportPartFault (e : Entry) (origin : Originator) (n : Nat) (s : State) : State :=
  makeReport (.memFault e.addr e.kind origin) (if s.part = .running then some (slotAt s n).owner else none) (some n)
    none none s

/-- An answer delivered by the kind of its entry (R177 to R179). -/
def deliver (e : Entry) (m : MemAnswer) (s : State) : State :=
  match e.origin with
  | .host adjusted overlay =>
      let s' := fixResponse ⟨answerStatus adjusted m.fault, readData e overlay m⟩ s
      if m.fault then reportHostFault e .host s' else s'
  | .translated =>
      let s' := fixResponse ⟨answerStatus false m.fault, readData e [] m⟩ s
      if m.fault then reportHostFault e .translated s' else s'
  | .stamp n => if m.fault then reportPartFault e .stamp n s else s
  | .slotState n => if m.fault then reportPartFault e .state n s else s
  | .loadRead i =>
      if s.part ≠ .loading then s
      else if m.fault then failLoad (.memFault e.addr) s
      else loaderAnswered i m.data s
  | .loadWrite => if s.part = .loading ∧ m.fault then failLoad (.memFault e.addr) s else s
  | .report => reportAnswered m.fault s
  | .drained => s

/-- Memory's answer goes to the oldest entry; with none it is discarded (R177). A failed load whose last entry this was
settles in FAILED (R179). -/
def answerTaken (m : MemAnswer) (s : State) : State :=
  match s.transit.queue with
  | [] => s
  | e :: queue => settleFailure (deliver e m { s with transit := { s.transit with queue := queue } })

end Sys2Proof.Machine
end

