-- ==== Sys2Proof/Machine/HostCommands.lean ====
section
/-! DEFINITION. The meanings of the host transactions' rows. Each is a transaction arriving at the upstream port: the
part takes it in arrival order and classifies it by its address (R170, R176), so a row's name says where its address
falls, not a decision of its own (log 1, 2). -/

namespace Sys2Proof.Machine

/-- What a meaning answers. -/
abbrev Answer := Host.Outcome State Fault Refusal

/-- SLOT_DIR_WRITE (R2): taken as `slotDirWrite`. -/
def execSlotDirWrite (w : HostWrite) (s : State) : Answer := .next (hostArrives (.write w) s)
/-- SLOT_DIR_READ (R4): taken as `slotDirRead`. -/
def execSlotDirRead (r : HostRead) (s : State) : Answer := .next (hostArrives (.read r) s)
/-- MAILBOX_DIR_WRITE (R26): taken as `mailboxDirWrite`. -/
def execMailboxDirWrite (w : HostWrite) (s : State) : Answer := .next (hostArrives (.write w) s)
/-- MAILBOX_DIR_READ (R46): taken as `mailboxDirRead`. -/
def execMailboxDirRead (r : HostRead) (s : State) : Answer := .next (hostArrives (.read r) s)
/-- AUDIO_WRITE (R56, R125): taken as `guardedWrite` of `audioWrite`. -/
def execAudioWrite (w : HostWrite) (s : State) : Answer := .next (hostArrives (.write w) s)
/-- GREETING_WRITE (R125): taken as `guardedWrite` of `forwardPlain`. -/
def execGreetingWrite (w : HostWrite) (s : State) : Answer := .next (hostArrives (.write w) s)
/-- ALIAS_READ_POSITION_ZERO (R120): taken as `aliasStart`. -/
def execAliasReadPositionZero (r : HostRead) (s : State) : Answer := .next (hostArrives (.read r) s)
/-- ALIAS_READ (R121): taken as `aliasContinue`. -/
def execAliasRead (r : HostRead) (s : State) : Answer := .next (hostArrives (.read r) s)
/-- ALIAS_WRITE (R118): refused. -/
def execAliasWrite (w : HostWrite) (s : State) : Answer := .next (hostArrives (.write w) s)
/-- REPORT_REGION_WRITE (R170): refused. -/
def execReportRegionWrite (w : HostWrite) (s : State) : Answer := .next (hostArrives (.write w) s)
/-- PLAIN_TRANSACTION (R170, R180): taken as `forwardPlain`. -/
def execPlainTransaction (t : HostTxn) (s : State) : Answer := .next (hostArrives t s)
/-- LINK_MISFORMED (R165): taken as `takeMisformed`. -/
def execLinkMisformed (t : HostTxn) (s : State) : Answer := .next (hostArrives t s)
/-- CONTROL_AREA_WRITE (R182): taken as `writeArea`, or `writeAreaFailed` in FAILED. -/
def execControlAreaWrite (w : HostWrite) (s : State) : Answer := .next (hostArrives (.write w) s)
/-- CLASS_ENTRY_WRITE (R127): its record takes effect as `writeClass`. -/
def execClassEntryWrite (w : HostWrite) (s : State) : Answer := .next (hostArrives (.write w) s)
/-- CALIBRATION_WRITE (R53): `writeCalibration`. -/
def execCalibrationWrite (w : HostWrite) (s : State) : Answer := .next (hostArrives (.write w) s)
/-- BREAK_LIST_WRITE (R108): `writeBreaks`. -/
def execBreakListWrite (w : HostWrite) (s : State) : Answer := .next (hostArrives (.write w) s)
/-- SCHEDULE_WRITE (R106): `writeSchedule`. -/
def execScheduleWrite (w : HostWrite) (s : State) : Answer := .next (hostArrives (.write w) s)
/-- BROADCAST_ENTRY_WRITE (R73): `putBroadcast`. -/
def execBroadcastEntryWrite (w : HostWrite) (s : State) : Answer := .next (hostArrives (.write w) s)
/-- SHELF_ENTRY_WRITE (R130): `writeShelf`. -/
def execShelfEntryWrite (w : HostWrite) (s : State) : Answer := .next (hostArrives (.write w) s)
/-- REPORT_CONSUMER_WRITE (R194): `takeConsumer`. -/
def execReportConsumerWrite (w : HostWrite) (s : State) : Answer := .next (hostArrives (.write w) s)
/-- ERROR_LATCH_CLEAR (R186): `clearLatch`. -/
def execErrorLatchClear (w : HostWrite) (s : State) : Answer := .next (hostArrives (.write w) s)
/-- RESTART (R185, R191): the straps stand at the level given when the command arrives (log 24); `enterLoading`. -/
def execRestart (w : HostWrite) (straps : BitVec 4) (s : State) : Answer :=
  .next (hostArrives (.write w) { s with straps := straps })
/-- SWEEP_NOW (R98): `commandSweep`. -/
def execSweepNow (w : HostWrite) (s : State) : Answer := .next (hostArrives (.write w) s)
/-- CLOCK_SET (R89): `commandClock`. -/
def execClockSet (w : HostWrite) (s : State) : Answer := .next (hostArrives (.write w) s)
/-- BROADCAST_POST (R74, R75): `commandPost`. -/
def execBroadcastPost (w : HostWrite) (s : State) : Answer := .next (hostArrives (.write w) s)
/-- BROADCAST_WITHDRAW (R80): `commandWithdraw`. -/
def execBroadcastWithdraw (w : HostWrite) (s : State) : Answer := .next (hostArrives (.write w) s)
/-- LAMP_REFRESH (R140): `commandRefresh`. -/
def execLampRefresh (w : HostWrite) (s : State) : Answer := .next (hostArrives (.write w) s)
/-- BAD_COMMAND (R185): COMMAND_DONE (BAD_COMMAND). -/
def execBadCommand (w : HostWrite) (s : State) : Answer := .next (hostArrives (.write w) s)
/-- CONTROL_AREA_READ (R186): taken as `readArea`. -/
def execControlAreaRead (r : HostRead) (s : State) : Answer := .next (hostArrives (.read r) s)

end Sys2Proof.Machine
end

