-- ==== Sys2Proof/Machine/EventCommands.lean ====
section
/-! DEFINITION. The meanings of the rows that are no host transaction: memory's answers, grants of room, clock events,
lamp link events, RESET, the end of a load and PRUN. Each has its effect, then the part comes to rest (`settle`). A clock
event given as a command says that its moment has come (log 5). An event or grant whose condition does not hold has no
effect (log 3). -/

namespace Sys2Proof.Machine

/-- MEMORY_ANSWER (R177). -/
def execMemoryAnswer (m : MemAnswer) (s : State) : Answer := .next (settle (answerTaken m s))

/-- DEPOSIT_IDLE_EXPIRY (R62). -/
def execDepositIdleExpiry (k : Nat) (s : State) : Answer :=
  .next (settle (if s.part = .running then lapseContext k s else s))

/-- The oldest waiting timeout claim is taken from its list and judged (R14, R174). -/
def takeClaim (s : State) : State :=
  match s.deposit.claims with
  | c :: claims => timeoutTaken c { s with deposit := { s.deposit with claims := claims } }
  | [] => s

/-- TIMEOUT_CLAIM (R14, R62, R63): granted room for two writes. -/
def execTimeoutClaim (s : State) : Answer := .next (settle (grantTo .deposit takeClaim s))

/-- The sweep's part of a SWEEP_VISIT: a visit granted room for one write; a record found past its visits goes on
(R100, R102). -/
def sweepStep (s : State) : State :=
  match s.part, s.sweep.active, s.sweep.step with
  | .running, true, .visiting => grantTo .sweep sweepVisit s
  | .running, true, .ending => endSweep s
  | .running, true, .reporting => reportSweep s
  | _, _, _ => s

/-- SWEEP_VISIT (R19, R100, R102). -/
def execSweepVisit (s : State) : Answer := .next (settle (sweepStep s))

/-- REPORT_WRITE (R193): granted room for one write. -/
def execReportWrite (s : State) : Answer := .next (settle (grantTo .control writeReport s))

/-- The loader's read or group is placed whole (R173, R174). -/
def placeLoaded (s : State) : State :=
  match loaderGroup s with
  | some g => place g (updateLoader loaderPlaced s)
  | none => s

/-- LOADER_ROOM_GRANT (R174, R188). -/
def execLoaderRoomGrant (s : State) : Answer := .next (settle (grantTo .loader placeLoaded s))

/-- CALENDAR_ADVANCE (R87, R97). -/
def execCalendarAdvance (s : State) : Answer := .next (settle (calendarAdvance s))

/-- LATCH_IDLE_EXPIRY (R122). -/
def execLatchIdleExpiry (k : Nat) (s : State) : Answer := .next (settle (expireLatch k s))

/-- CADENCE_TICK (R148). -/
def execCadenceTick (s : State) : Answer := .next (settle (cadenceTicks s))

/-- PROBE_MOMENT_REACHED (R151, R152): the moment stands reached, and a free link chooses as the part comes to rest. -/
def execProbeMomentReached (e : Nat) (s : State) : Answer := .next (settle (probeReached e s))

/-- FRAME_END (R148, R150). -/
def execFrameEnd (k : Link) (s : State) : Answer := .next (settle (frameEnded k s))

/-- REPLY_FIRST_WORD (R150). -/
def execReplyFirstWord (k : Link) (s : State) : Answer := .next (settle (replyBegins k s))

/-- REPLY_RECEIVED (R153 to R158): the words that its bits form are judged (R200). -/
def execReplyReceived (k : Link) (bits : List Bool) (s : State) : Answer :=
  .next (settle (replyTaken k (framed bits) s))

/-- REPLY_TIMEOUT (R157). -/
def execReplyTimeout (k : Link) (s : State) : Answer := .next (settle (replyExpired k s))

/-- RESET_ASSERTED (R187). -/
def execResetAsserted (s : State) : Answer := .next (settle (assertReset s))

/-- RESET_RELEASED (R187). -/
def execResetReleased (straps : BitVec 4) (s : State) : Answer := .next (settle (releaseReset straps s))

/-- LOAD_DONE (R188). -/
def execLoadDone (s : State) : Answer := .next (settle (finishLoad s))

/-- PROC_STOPPED: PRUN is low (R133, R197). -/
def execProcStopped (s : State) : Answer := .next (settle (setPrun false s))

/-- PROC_RUNNING: PRUN is high (R133, R197). -/
def execProcRunning (s : State) : Answer := .next (settle (setPrun true s))

/-- PRUN_CHANGE_NOT_RUNNING: the level changes, reported by nothing unless the part is RUNNING after all (R197,
log 35). -/
def execPrunChangeNotRunning (high : Bool) (s : State) : Answer := .next (settle (setPrun high s))

end Sys2Proof.Machine
end

