-- ==== Sys2Proof/Machine/Dispatch.lean ====
section
/-! DEFINITION. The meaning of every command: one arm per row of the table. -/

namespace Sys2Proof.Machine

def exec (i : Instr) (s : State) : Host.Outcome State Fault Refusal :=
  match i with
  | .slotDirWrite w => Sys2Proof.Machine.execSlotDirWrite w s
  | .slotDirRead r => Sys2Proof.Machine.execSlotDirRead r s
  | .mailboxDirWrite w => Sys2Proof.Machine.execMailboxDirWrite w s
  | .mailboxDirRead r => Sys2Proof.Machine.execMailboxDirRead r s
  | .audioWrite w => Sys2Proof.Machine.execAudioWrite w s
  | .greetingWrite w => Sys2Proof.Machine.execGreetingWrite w s
  | .aliasReadPositionZero r => Sys2Proof.Machine.execAliasReadPositionZero r s
  | .aliasRead r => Sys2Proof.Machine.execAliasRead r s
  | .aliasWrite w => Sys2Proof.Machine.execAliasWrite w s
  | .reportRegionWrite w => Sys2Proof.Machine.execReportRegionWrite w s
  | .plainTransaction t => Sys2Proof.Machine.execPlainTransaction t s
  | .linkMisformed t => Sys2Proof.Machine.execLinkMisformed t s
  | .controlAreaWrite w => Sys2Proof.Machine.execControlAreaWrite w s
  | .classEntryWrite w => Sys2Proof.Machine.execClassEntryWrite w s
  | .calibrationWrite w => Sys2Proof.Machine.execCalibrationWrite w s
  | .breakListWrite w => Sys2Proof.Machine.execBreakListWrite w s
  | .scheduleWrite w => Sys2Proof.Machine.execScheduleWrite w s
  | .broadcastEntryWrite w => Sys2Proof.Machine.execBroadcastEntryWrite w s
  | .shelfEntryWrite w => Sys2Proof.Machine.execShelfEntryWrite w s
  | .reportConsumerWrite w => Sys2Proof.Machine.execReportConsumerWrite w s
  | .errorLatchClear w => Sys2Proof.Machine.execErrorLatchClear w s
  | .restart w straps => Sys2Proof.Machine.execRestart w straps s
  | .sweepNow w => Sys2Proof.Machine.execSweepNow w s
  | .clockSet w => Sys2Proof.Machine.execClockSet w s
  | .broadcastPost w => Sys2Proof.Machine.execBroadcastPost w s
  | .broadcastWithdraw w => Sys2Proof.Machine.execBroadcastWithdraw w s
  | .lampRefresh w => Sys2Proof.Machine.execLampRefresh w s
  | .badCommand w => Sys2Proof.Machine.execBadCommand w s
  | .memoryAnswer answer => Sys2Proof.Machine.execMemoryAnswer answer s
  | .depositIdleExpiry context => Sys2Proof.Machine.execDepositIdleExpiry context s
  | .timeoutClaim => Sys2Proof.Machine.execTimeoutClaim s
  | .sweepVisit => Sys2Proof.Machine.execSweepVisit s
  | .reportWrite => Sys2Proof.Machine.execReportWrite s
  | .loaderRoomGrant => Sys2Proof.Machine.execLoaderRoomGrant s
  | .calendarAdvance => Sys2Proof.Machine.execCalendarAdvance s
  | .latchIdleExpiry latch => Sys2Proof.Machine.execLatchIdleExpiry latch s
  | .cadenceTick => Sys2Proof.Machine.execCadenceTick s
  | .probeMomentReached shelf => Sys2Proof.Machine.execProbeMomentReached shelf s
  | .frameEnd link => Sys2Proof.Machine.execFrameEnd link s
  | .replyReceived link bits => Sys2Proof.Machine.execReplyReceived link bits s
  | .replyTimeout link => Sys2Proof.Machine.execReplyTimeout link s
  | .resetAsserted => Sys2Proof.Machine.execResetAsserted s
  | .resetReleased straps => Sys2Proof.Machine.execResetReleased straps s
  | .loadDone => Sys2Proof.Machine.execLoadDone s
  | .procStopped => Sys2Proof.Machine.execProcStopped s
  | .procRunning => Sys2Proof.Machine.execProcRunning s
  | .replyFirstWord link => Sys2Proof.Machine.execReplyFirstWord link s
  | .controlAreaRead r => Sys2Proof.Machine.execControlAreaRead r s
  | .prunChangeNotRunning high => Sys2Proof.Machine.execPrunChangeNotRunning high s

end Sys2Proof.Machine
end

