-- ==== Sys2Proof/Machine/Clock.lean ====
section
/-! DEFINITION. One rising edge of CLK32 (R87, R148, log 4): the counts move, and the events that fall due are put on
the command queue in a fixed order. -/

namespace Sys2Proof.Machine

/-- The second that the next edge completes (R87). -/
def secondDue (s : State) : Bool := decide (Config.cyclesPerSecond ≤ s.calendar.fraction + 1)

/-- The cadence tick that the next edge completes (R148). -/
def tickDue (s : State) : Bool := decide (Config.cyclesPerTick ≤ s.lamps.cycles + 1)

/-- An OPEN context's deadline is reached (R62). -/
def idleReached (now : Nat) (c : Option Context) : Bool :=
  match c with
  | some c => (match c.state with | .opened deadline => decide (deadline ≤ now) | .lapsed => false)
  | none => false

/-- A HELD latch's deadline is reached (R122). -/
def latchReached (now : Nat) (l : Option Latch) : Bool :=
  match l with
  | some l => decide (l.deadline ≤ now)
  | none => false

/-- A reply timeout has run out (R150). -/
def timeoutReached (now : Nat) (a : Activity) : Bool :=
  match a with
  | .exchange x => (match x.timer with | .waiting moment => decide (moment ≤ now) | _ => false)
  | _ => false

/-- The events due at an edge, in the order they are taken (log 4). A probe moment comes before the reply timeouts: a
miss sets its shelf's moment one interval later (R152, R157), and no event of the old moment may come behind it. The PROBE
itself may go out at the rest after an event before it, a tick of the same edge not yet taken (log 4). -/
def dueEvents (now : Nat) (s : State) : List Instr :=
  (if secondDue s then [.calendarAdvance] else [])
    ++ (if tickDue s then [.cadenceTick] else [])
    ++ ((List.range 48).filter fun k => idleReached now (contextAt s k)).map .depositIdleExpiry
    ++ ((List.range 48).filter fun k => latchReached now (latchAt s k)).map .latchIdleExpiry
    ++ ((List.range 192).filter fun e => (shelfAt s e).probeAt == some now).map .probeMomentReached
    ++ (if timeoutReached now s.lamps.linkA.activity then [.replyTimeout .a] else [])
    ++ (if timeoutReached now s.lamps.linkB.activity then [.replyTimeout .b] else [])

/-- One edge of CLK32. Under RESET the calendar and the cadence do not move (R88, R148); a count about to be complete
waits for its event, which sets it to 0. -/
def clockEdge (s : State) : State :=
  if s.part = .reset then { s with now := s.now + 1 }
  else
    { s with
      now := s.now + 1
      calendar := { s.calendar with fraction := if secondDue s then s.calendar.fraction else s.calendar.fraction + 1 }
      lamps := { s.lamps with cycles := if tickDue s then s.lamps.cycles else s.lamps.cycles + 1 }
      pending := s.pending ++ dueEvents (s.now + 1) s }

end Sys2Proof.Machine
end

