-- ==== Sys2Proof/Safety.lean ====
section
/-! DEFINITION. What the statements about the part speak of: when a host transaction is taken at once, the state it is
taken in, and the invariants that every step keeps. -/

namespace Sys2Proof.Machine

/-! ### A host transaction taken at once -/

/-- The upstream port takes a transaction as it arrives: none waits before it, the part is not LOADING, fewer than 64
responses are outstanding, and where it asks room the free room covers it and the turn is the port's or nobody else asks
(R174 to R176, R180). -/
def PortReady (t : HostTxn) (s : State) : Prop :=
  s.transit.arrivals = [] ∧ s.part ≠ .loading ∧ s.transit.order.length < Config.orderPlaces
    ∧ ∀ n, roomAsked s t = some n →
        n ≤ freeRoom s ∧ (s.transit.turn = .upstream ∨ ∀ q, q ≠ .upstream → request s q = none)

/-- The state in which a transaction that the port can take at once is taken: the part is at rest, and the turn has
passed on when the transaction asked room (R175, R176). -/
def accepted (t : HostTxn) (s : State) : State :=
  let u := calm { s with transit := { s.transit with arrivals := [t] } }
  let v := { u with transit := { u.transit with arrivals := [] } }
  if (roomAsked s t).isSome then setTurn .deposit v else v

/-- The rows of the command table that a host transaction can arrive under: its row says where its address falls, and the
part classifies it afresh (log 1). RESTART's row gives the straps as they stand already (log 24). -/
def hostRows (straps : BitVec 4) : HostTxn → List Instr
  | .read r => [.slotDirRead r, .mailboxDirRead r, .aliasReadPositionZero r, .aliasRead r, .controlAreaRead r,
      .plainTransaction (.read r), .linkMisformed (.read r)]
  | .write w => [.slotDirWrite w, .mailboxDirWrite w, .audioWrite w, .greetingWrite w, .aliasWrite w,
      .reportRegionWrite w, .plainTransaction (.write w), .linkMisformed (.write w), .controlAreaWrite w,
      .classEntryWrite w, .calibrationWrite w, .breakListWrite w, .scheduleWrite w, .broadcastEntryWrite w,
      .shelfEntryWrite w, .reportConsumerWrite w, .errorLatchClear w, .restart w straps, .sweepNow w, .clockSet w,
      .broadcastPost w, .broadcastWithdraw w, .lampRefresh w, .badCommand w]

/-- A well-formed transaction taken while RUNNING that falls in a region of a kind with a base (R170). -/
def FallsIn (kind : RegionKind) (base : Nat) (t : HostTxn) (s : State) : Prop :=
  s.part = .running ∧ txnFault t = none ∧ areaOffset s (txnAddr t) = none
    ∧ ∃ size, regionOf s (txnAddr t) = some ⟨kind, base, size⟩

/-- A well-formed transaction taken while RUNNING at an offset of the Control Area (R167, R170). -/
def FallsInArea (offset : Nat) (t : HostTxn) (s : State) : Prop :=
  s.part = .running ∧ txnFault t = none ∧ areaOffset s (txnAddr t) = some offset

/-- An accepted Control Area write as it goes downstream, its status bytes withheld (R182). -/
def areaForwarded (offset : Nat) (w : HostWrite) (s : State) : State :=
  joinOrder none (place [hostWriteEntry w (linePart w (withholdStatus offset (lineLanes w))) false] s)

/-- A Control Area write whose records all pass and which carries a command (R182, R185). -/
def CommandWritten (offset : Nat) (c : Command) (w : HostWrite) (s : State) : Prop :=
  PortReady (.write w) s ∧ FallsInArea offset (.write w) s
    ∧ failedRecords s (lineLanes w) (touchedRecords offset w.words.toNat) = []
    ∧ writtenCommand (lineLanes w) (touchedRecords offset w.words.toNat) = some c

/-- The state in which the command of a Control Area write has its effect: the write is forwarded, the command is the
last one taken (R182). The command record is the first of its line. -/
def commandTaken (offset : Nat) (c : Command) (w : HostWrite) (s : State) : State :=
  let u := areaForwarded offset w (accepted (.write w) s)
  { u with control := { u.control with command := some c } }

/-- The record behind the command of a Control Area write takes effect, if the write covers it: the consumer index
(R182). -/
def afterCommand (offset : Nat) (w : HostWrite) (u : State) : State :=
  if AreaRecord.consumer ∈ touchedRecords offset w.words.toNat then
    takeRecord (laneData (areaLanes (lineLanes w) .consumer)) .consumer u
  else u

/-! ### What else a command leaves -/

/-- Of the lamps' half only what follows the mailboxes' modes can differ: the mapped modes and composed images of shelf
entries, and the dirty sets (R131, R132, R136). -/
def OnlyImagesChange (s u : State) : Prop :=
  (∀ e, ∃ mapped composed, shelfAt u e = { shelfAt s e with mapped := mapped, composed := composed })
    ∧ u.lamps.phase = s.lamps.phase ∧ u.lamps.cycles = s.lamps.cycles
    ∧ ∀ k, { linkState u.lamps k with dirty := [] } = { linkState s.lamps k with dirty := [] }

/-- Of the lamps' half only one shelf entry can differ, and the dirty sets (R136). -/
def OnlyShelfChanges (e : Nat) (s u : State) : Prop :=
  (∀ i, i ≠ e → shelfAt u i = shelfAt s i)
    ∧ u.lamps.phase = s.lamps.phase ∧ u.lamps.cycles = s.lamps.cycles
    ∧ ∀ k, { linkState u.lamps k with dirty := [] } = { linkState s.lamps k with dirty := [] }

/-- Every shadow, table, context, latch, pending set and link record is empty, FREE, IDLE or UNCONFIGURED (R187, R190 and
the tables they name). The values named here for a header, a class, a calibration source, a broadcast entry, a shelf
entry and the sweep of an empty shadow are those of log 7. -/
def ShadowsEmpty (s : State) : Prop :=
  s.transit.regions = [] ∧ s.slots = [] ∧ s.boxes = [] ∧ s.lampMap = []
    ∧ (∀ k, contextAt s k = none) ∧ s.deposit.claims = [] ∧ (∀ i, calibrationAt s i = ⟨0, 256, 0⟩)
    ∧ (∀ n, broadcastAt s n = ⟨false, false, 0, 0, false, none, []⟩)
    ∧ s.sweep = ⟨false, .visiting, 0, 0, 0, 0, 0⟩
    ∧ (∀ k, scheduleAt s k = []) ∧ s.greetings.breaks = [] ∧ (∀ k, latchAt s k = none)
    ∧ s.greetings.emptySpell = false
    ∧ (∀ e, shelfAt s e = ⟨false, false, false, false, 0, 0, Vector.replicate 48 .off, Vector.replicate 48 none,
        Vector.replicate 48 .off, none, false, .unconfigured, 0, false, 0, none, false⟩)
    ∧ (∀ k, linkState s.lamps k = ⟨[], 95, .idle, false⟩)
    ∧ s.control.header = ⟨0, none, false, 10, 5, 1000⟩ ∧ s.control.command = none
    ∧ ∀ i, classAt s i = ⟨0, 0, 0, 1024, 30, false, .fast, .steady, .off, 0, ⟨0, 0⟩, ⟨0, 0⟩, ⟨0, 0⟩⟩

/-- A mailbox record without what its slots, capacity and class give it: the counts of R40, the play queues, the full flag
and the lamp mode (R40, R42 to R44, R47). -/
def plainFields (b : MailboxRec) : MailboxRec :=
  { b with
    nonFree := 0, new := 0, urgentNew := 0, heard := 0, saved := 0, spent := 0, full := false, mode := .off
    unheardQueue := [], keptQueue := [] }

/-! ### Bytes shown and fields judged -/

/-- The bytes of an overlay at an offset show a number, least significant byte first (section 11). -/
def Shows (overlay : List (Option Byte)) (offset size value : Nat) : Prop :=
  ∀ i, i < size → overlay[offset + i]? = some (some (BitVec.ofNat 8 (value / 256 ^ i)))

/-- A report kind's code and its eight detail bytes: each field given by its offset from 18h, its size and its value,
least significant byte first, and zero in every byte that no field names (section 11.7). -/
def KindReads (body : ReportBody) (code : Nat) (fields : List (Nat × Nat × Nat)) : Prop :=
  reportCode body = code ∧ (reportDetail body).length = 8
    ∧ ∀ k, k < 8 → byteOf (reportDetail body) k
        = match fields.find? (fun f => decide (f.1 ≤ k) && decide (k < f.1 + f.2.1)) with
          | some f => f.2.2 / 256 ^ (k - f.1) % 256
          | none => 0

/-- A present locator's run of blocks is 1 to 128 long and lies in one GREETING region and in the address space
(R105). -/
def LocatorValid (regions : List Region) (first length : Nat) : Prop :=
  1 ≤ length ∧ length ≤ 128 ∧ first + length ≤ 16777216
    ∧ ∃ g ∈ regions, g.kind = .greeting ∧ g.base ≤ 4096 * first ∧ 4096 * (first + length) ≤ g.base + g.size

/-- A mailbox's record with its full flag and lamp mode as its counts and class give them (R42, R47, R128). -/
def afresh (s : State) (b : MailboxRec) : MailboxRec :=
  { b with
    full := decide (b.capacity ≤ b.nonFree)
    mode := derivedMode (classAt s b.cls) { b with full := decide (b.capacity ≤ b.nonFree) } }

/-- How a host field of a mailbox record is judged that has a value check alone (R27, R28): a field not enabled, or
holding its value already, needs nothing; a bad value is withheld with FIELD_REFUSED; a good one enters the shadow, and
nothing else of the part changes but what the Lamp Composer derives. -/
def FieldJudged (judge : BoxWork → BoxWork) (m offset size : Nat) (held : MailboxRec → Nat) (good : State → Nat → Prop)
    (name : FieldName) (put : State → Nat → MailboxRec → MailboxRec) : Prop :=
  ∀ j : BoxWork,
    let b := boxAt j.state m
    let v := mergedField j.lanes offset size (held b)
    (anyEnabled j.lanes offset size = false ∨ v = held b → judge j = j)
    ∧ (anyEnabled j.lanes offset size = true → v ≠ held b → ¬ good j.state v →
        judge j = { j with lanes := withhold offset size j.lanes, causes := j.causes ++ [.fieldRefused name] })
    ∧ (anyEnabled j.lanes offset size = true → v ≠ held b → good j.state v →
        (judge j).lanes = j.lanes ∧ (judge j).causes = j.causes ∧ boxAt (judge j).state m = put j.state v b
        ∧ (∀ i, i ≠ m → boxAt (judge j).state i = boxAt j.state i)
        ∧ (judge j).state = { j.state with boxes := (judge j).state.boxes, lamps := (judge j).state.lamps }
        ∧ OnlyImagesChange j.state (judge j).state)

/-- Of a mailbox's record only the counts of R40, the play queues, the full flag and the lamp mode can differ, the flag and
the mode as its counts and class then give them (R40 to R47). -/
def OnlyCountsFollow (m : Nat) (s u : State) : Prop :=
  plainFields (boxAt u m) = plainFields (boxAt s m) ∧ boxAt u m = afresh u (boxAt u m)

/-! ### Invariants -/

/-- The Outbound Queue and the response order hold no more than their places (R173, R176). -/
def PlacesBounded (s : State) : Prop :=
  s.transit.queue.length ≤ Config.queuePlaces ∧ s.transit.order.length ≤ Config.orderPlaces

/-- Unread and unwritten reports are at most 255 and the indexes are ring indexes (R192 to R194, R198). -/
def RingBounded (s : State) : Prop :=
  s.reports.producer < 256 ∧ s.reports.consumer < 256
    ∧ unread s.reports + unwritten s.reports ≤ Config.reportPlaces
    ∧ ∀ l, s.loader = some l → l.consumer < 256

/-- The dirty set of a link is a rising list of its addresses, and but for a load in progress it holds exactly the
shelves that are configured and whose last-sent image is unknown or differs from the composed one (R136). -/
def DirtySetExact (k : Link) (s : State) : Prop :=
  (linkState s.lamps k).dirty.Pairwise (· < ·) ∧ (∀ a ∈ (linkState s.lamps k).dirty, a < 96)
    ∧ (s.part ≠ .loading →
        ∀ a, a < 96 → (a ∈ (linkState s.lamps k).dirty ↔
          (shelfAt s (entryOf k a)).configured = true
            ∧ (shelfAt s (entryOf k a)).lastSent ≠ some (shelfAt s (entryOf k a)).composed))

def DirtySetsExact (s : State) : Prop := DirtySetExact .a s ∧ DirtySetExact .b s

/-- While RUNNING every shelf entry's composed image is the one R131 gives. -/
def ImagesComposed (s : State) : Prop :=
  s.part = .running → ∀ e, e < 192 → ∀ k : Fin 48, (shelfAt s e).composed[k] =
    if s.prun = false ∧ s.control.header.dark = true then .off
    else if (shelfAt s e).sourceSelect.getLsbD k.val then (shelfAt s e).override[k]
    else ((shelfAt s e).mapped[k]).getD .off

/-- The sparse directories are in canonical form. -/
def DirectoriesCanonical (s : State) : Prop :=
  sparseWf SlotRec.empty s.slots = true ∧ sparseWf MailboxRec.empty s.boxes = true ∧ sparseWf none s.lampMap = true

/-- The extents of two contexts in use share no block (R54, R56). -/
def ExtentsApart (s : State) : Prop :=
  ∀ i j a b, i ≠ j → contextAt s i = some a → contextAt s j = some b →
    a.first + a.length ≤ b.first ∨ b.first + b.length ≤ a.first ∨ a.length = 0 ∨ b.length = 0

/-- At most one latch is HELD for each mailbox and lane (R119). -/
def LatchesApart (s : State) : Prop :=
  ∀ i j a b, i ≠ j → latchAt s i = some a → latchAt s j = some b → ¬ (a.mailbox = b.mailbox ∧ a.lane = b.lane)

/-- The lamp position map gives each position that a mailbox names that mailbox, so no two name one (R25, R35). -/
def PositionsHeld (s : State) : Prop :=
  ∀ m p, lampPosition (boxAt s m) = some p → holderAt s p = some m

/-- A position that the lamp position map gives a mailbox is the one that the mailbox names (R25, R35). -/
def HoldersNamed (s : State) : Prop :=
  ∀ m p, holderAt s p = some m → lampPosition (boxAt s m) = some p

/-- The shelf entry of a lamp position that no mailbox holds shows no mailbox, and outside RUNNING none does: a load maps
the positions at its end (R25, R35, R50, R132). -/
def UnheldUnmapped (s : State) : Prop :=
  ∀ p, p < 9216 → (s.part ≠ .running ∨ holderAt s p = none) → (shelfAt s (p / 48)).mapped[p % 48]? = some none

/-- While RUNNING every mailbox's full flag and lamp mode are those its record and class give, and the shelf entry of its
lamp position holds that mode (R42, R47, R128, R132). -/
def ModesDerived (s : State) : Prop :=
  s.part = .running →
    (∀ m, (boxAt s m).full = decide ((boxAt s m).capacity ≤ (boxAt s m).nonFree)
      ∧ (boxAt s m).mode = derivedMode (classOf s m) (boxAt s m))
    ∧ ∀ m p, lampPosition (boxAt s m) = some p → p < 9216 →
        (shelfAt s (p / 48)).mapped[p % 48]? = some (some (boxAt s m).mode)

/-- A broadcast is LIVE only while RUNNING, and its source slot is then NEW, HEARD or SAVED (R82, R86). -/
def SourcesKept (s : State) : Prop :=
  ∀ n, (broadcastAt s n).live = true → s.part = .running ∧ isKept (slotAt s (broadcastAt s n).source).state = true

/-- The LIVE broadcasts, of those that pass a test, whose pending set holds a mailbox. -/
def holding (s : State) (m : Nat) (p : Broadcast → Bool) : Nat :=
  s.broadcasts.toList.countP fun b => b.live && b.pending.contains m && p b

/-- Pending sets hold each mailbox once, are empty just when the broadcast is IDLE, hold ACTIVE and SUSPENDED mailboxes
alone, and give every mailbox its two unheard-broadcast counts (R41, R76, R79). -/
def BroadcastCountsExact (s : State) : Prop :=
  (∀ n, (broadcastAt s n).live = true → s.part = .running)
    ∧ (∀ n, (broadcastAt s n).pending.Nodup ∧ ((broadcastAt s n).live = false ↔ (broadcastAt s n).pending = []))
    ∧ (∀ n, ∀ m ∈ (broadcastAt s n).pending, (boxAt s m).status ≠ .unassigned)
    ∧ ∀ m, (boxAt s m).unheard = holding s m (fun _ => true)
        ∧ (boxAt s m).urgentUnheard = holding s m (fun b => b.urgent)

/-- The slots of the shadow that a mailbox owns and that pass a test. -/
def owned (s : State) (m : Nat) (p : SlotRec → Bool) : Nat := s.slots.countP fun e => e.2.owner == m && p e.2

/-- While RUNNING every mailbox's counts are those of its slots (R40). -/
def SlotCountsExact (s : State) : Prop :=
  s.part = .running → ∀ m,
    (boxAt s m).nonFree = owned s m (fun r => r.state != .free)
    ∧ (boxAt s m).new = owned s m (fun r => r.state == .new)
    ∧ (boxAt s m).urgentNew = owned s m (fun r => r.state == .new && r.urgent)
    ∧ (boxAt s m).heard = owned s m (fun r => r.state == .heard)
    ∧ (boxAt s m).saved = owned s m (fun r => r.state == .saved)
    ∧ (boxAt s m).spent = owned s m (fun r => r.state == .discarded || r.state == .expired)

/-- While RUNNING the Unheard queue of a mailbox holds each slot it owns that is NEW, once, in the order of R43. -/
def UnheardQueueExact (s : State) (m : Nat) : Prop :=
  (∀ n, n ∈ (boxAt s m).unheardQueue ↔ (slotAt s n).owner = m ∧ (slotAt s n).state = .new)
    ∧ (boxAt s m).unheardQueue.Pairwise fun i j => unheardBefore (slotAt s i) i (slotAt s j) j = true

/-- While RUNNING the Kept queue of a mailbox holds each slot it owns that is HEARD or SAVED, once, in the order of
R44. -/
def KeptQueueExact (s : State) (m : Nat) : Prop :=
  (∀ n, n ∈ (boxAt s m).keptQueue ↔
      (slotAt s n).owner = m ∧ ((slotAt s n).state = .heard ∨ (slotAt s n).state = .saved))
    ∧ (boxAt s m).keptQueue.Pairwise fun i j => keptBefore (slotAt s i) i (slotAt s j) j = true

def QueuesExact (s : State) : Prop := s.part = .running → ∀ m, UnheardQueueExact s m ∧ KeptQueueExact s m

/-- Outside RUNNING no mailbox of the shadow has a count or a queue: a load builds them at its end (R50). -/
def NothingCounted (s : State) : Prop :=
  s.part ≠ .running → ∀ m,
    (boxAt s m).nonFree = 0 ∧ (boxAt s m).new = 0 ∧ (boxAt s m).urgentNew = 0 ∧ (boxAt s m).heard = 0
    ∧ (boxAt s m).saved = 0 ∧ (boxAt s m).spent = 0 ∧ (boxAt s m).unheardQueue = [] ∧ (boxAt s m).keptQueue = []

/-- A context in use and a RECORDING slot name each other, and the context holds the slot's owner, source and first
block (R55, R68, R69). -/
def RecordingsHeld (s : State) : Prop :=
  (∀ n, (slotAt s n).state = .recording → ∃ k c, (slotAt s n).context = some k ∧ contextAt s k = some c ∧ c.slot = n)
    ∧ ∀ k c, contextAt s k = some c →
        s.part = .running ∧ (slotAt s c.slot).state = .recording ∧ (slotAt s c.slot).context = some k
          ∧ (slotAt s c.slot).owner = c.owner ∧ (slotAt s c.slot).source = c.source
          ∧ (slotAt s c.slot).firstBlock = c.first

/-- The calendar stays a day, minute, second and fraction of its ranges (R87, R89). -/
def CalendarBounded (s : State) : Prop :=
  s.calendar.second < 60 ∧ s.calendar.minute < 1440 ∧ s.calendar.day ≤ 65535 ∧ s.calendar.fraction < 32768

/-- Miss counts, sequences, cursors, the cadence phase and the cycles since its last tick stay in their ranges (R137,
R145, R148, R157). -/
def LinksBounded (s : State) : Prop :=
  (∀ e, (shelfAt s e).misses ≤ 3 ∧ (shelfAt s e).sequence < 16)
    ∧ s.lamps.linkA.cursor < 96 ∧ s.lamps.linkB.cursor < 96 ∧ s.lamps.phase < 8 ∧ s.lamps.cycles < 8192

/-- A load is in progress, or has failed and drains, just while the part is LOADING; while one drains, an entry of its
loader is still in the queue (R179, R187, R188, R190). -/
def LoaderPresent (s : State) : Prop :=
  (s.part = .loading ↔ s.loader.isSome = true ∨ s.failing.isSome = true)
    ∧ ¬ (s.loader.isSome = true ∧ s.failing.isSome = true)
    ∧ (s.failing.isSome = true → ∃ e ∈ s.transit.queue, e.origin = .drained)

/-- The number of a loader's read. -/
def readNumber (e : Entry) : Option Nat :=
  match e.origin with
  | .loadRead i => some i
  | _ => none

/-- The loader's reads in the queue are those from the next to be judged to the next to be placed, in order, and the
mailbox and slot records behind those judged are still empty (R188). With no load in progress no read waits. -/
def LoadInOrder (s : State) : Prop :=
  match s.loader with
  | none => s.transit.queue.filterMap readNumber = []
  | some l =>
      s.part = .loading ∧ l.judged ≤ l.next
      ∧ s.transit.queue.filterMap readNumber = List.range' l.judged (l.next - l.judged)
      ∧ (∀ m, 2 * (l.judged - 79) ≤ m → boxAt s m = MailboxRec.empty)
      ∧ ∀ n, 4 * (l.judged - 4175) ≤ n → slotAt s n = SlotRec.empty

/-- Under RESET the turn is the upstream port's (R175). -/
def TurnHome (s : State) : Prop := s.part = .reset → s.transit.turn = .upstream

end Sys2Proof.Machine
end

