-- ==== Sys2Proof/Certificates/Slice0/Obligations.lean ====
section
/-! DEFINITION. The statements for the provers. A host transaction taken at once is taken in the state `accepted`, which
differs from the state before only as `Obligations.RestChangesOnlyLinksAndResponses` says; `calm` and `settle` are the
part coming to rest after one thing taken (log 2). -/

open Sys2Proof Sys2Proof.Machine

/-! ### The step -/

/-- The command at the front of the queue is run on the state with the queue's rest. No command of the part ends in a
fault or a refusal, and none touches the queue of waiting commands. -/
def Obligations.StepRunsFrontCommandToANextState : Prop :=
  (∀ (c : Instr) (rest : List Instr) (s : State), s.pending = c :: rest → step s = exec c { s with pending := rest })
  ∧ (∀ (c : Instr) (s : State), ∃ t, exec c s = .next t ∧ t.pending = s.pending)

/-- With nothing waiting a step is one CLK32 edge (log 4): the count of edges rises; under RESET nothing else moves; else
the fraction rises, or the second it completes is put on the queue; the events due are put on the queue, a probe moment
before the reply timeouts (log 4); the directories and units do not change. -/
def Obligations.EmptyQueueIsOneClockEdge : Prop :=
  ∀ s : State, s.pending = [] → ∃ t, step s = .next t ∧ t.now = s.now + 1
    ∧ (s.part = .reset → t = { s with now := s.now + 1 })
    ∧ (s.part ≠ .reset → s.calendar.fraction + 1 < 32768 →
        t.calendar = { s.calendar with fraction := s.calendar.fraction + 1 })
    ∧ (s.part ≠ .reset → 32768 ≤ s.calendar.fraction + 1 →
        t.calendar = s.calendar ∧ ∃ later, t.pending = .calendarAdvance :: later)
    ∧ (s.part ≠ .reset → s.lamps.cycles + 1 < 8192 → t.lamps = { s.lamps with cycles := s.lamps.cycles + 1 })
    ∧ (s.part ≠ .reset → 8192 ≤ s.lamps.cycles + 1 → t.lamps = s.lamps ∧ Instr.cadenceTick ∈ t.pending)
    ∧ (s.part ≠ .reset → ∃ (before : List Instr) (probes : List Nat) (timeouts : List Link),
        t.pending = before ++ probes.map .probeMomentReached ++ timeouts.map .replyTimeout
        ∧ (∀ e, e ∈ probes ↔ e < 192 ∧ (shelfAt s e).probeAt = some (s.now + 1))
        ∧ (∀ k, k ∈ timeouts ↔ ∃ x moment, (linkState s.lamps k).activity = .exchange x ∧ x.timer = .waiting moment
            ∧ moment ≤ s.now + 1)
        ∧ (∀ k, Instr.depositIdleExpiry k ∈ before ↔ k < 48 ∧ ∃ c deadline, contextAt s k = some c
            ∧ c.state = .opened deadline ∧ deadline ≤ s.now + 1)
        ∧ (∀ k, Instr.latchIdleExpiry k ∈ before ↔ k < 48 ∧ ∃ l, latchAt s k = some l ∧ l.deadline ≤ s.now + 1))
    ∧ t.part = s.part ∧ t.transit = s.transit ∧ t.slots = s.slots ∧ t.boxes = s.boxes ∧ t.lampMap = s.lampMap
    ∧ t.deposit = s.deposit ∧ t.broadcasts = s.broadcasts ∧ t.sweep = s.sweep ∧ t.greetings = s.greetings
    ∧ t.control = s.control ∧ t.reports = s.reports ∧ t.counts = s.counts ∧ t.loader = s.loader
    ∧ t.prun = s.prun ∧ t.straps = s.straps ∧ t.restartTag = s.restartTag ∧ t.failing = s.failing

/-- As the part comes to rest, and as it accepts a transaction, only the links' choice of frames, the responses returned
and the turn change; a response that is fixed at the front of the order is returned; of a shelf entry only the sequence
and the probe moment of a frame just built change, and the dirty sets stay as they are. Coming to rest is, in this
order, link A's choice, link B's, the return of the responses fixed at the front of the order, and the turn's passing. In
LOADING no arrival is accepted. As the part comes to rest, the transaction at the head of arrivals is taken when the port
can take it (the part not LOADING, fewer than 64 responses outstanding, and its room granted or none asked), the turn
passing on from a grant, and the part comes to rest again with those behind it, in arrival order; else it waits. A
transaction that the port can take at once is taken as it arrives, whatever row it arrives under (log 1). One that arrives
while the head of arrivals cannot be taken waits behind the others, and nothing but the coming to rest happens. (The
moments at which the part comes to rest are log 2's and log 17's, where the turn stands with no request waiting is
log 40's.) -/
def Obligations.RestChangesOnlyLinksAndResponses : Prop :=
  (∀ (t : HostTxn) (s : State),
    (∀ u, u = calm s ∨ u = accepted t s →
      u.part = s.part ∧ u.prun = s.prun ∧ u.now = s.now ∧ u.slots = s.slots ∧ u.boxes = s.boxes
      ∧ u.lampMap = s.lampMap ∧ u.deposit = s.deposit ∧ u.broadcasts = s.broadcasts ∧ u.calendar = s.calendar
      ∧ u.sweep = s.sweep ∧ u.greetings = s.greetings ∧ u.control = s.control ∧ u.reports = s.reports
      ∧ u.counts = s.counts ∧ u.loader = s.loader ∧ u.transit.regions = s.transit.regions
      ∧ u.transit.queue = s.transit.queue ∧ u.transit.joined = s.transit.joined
      ∧ u.pending = s.pending ∧ u.straps = s.straps ∧ u.transit.ctlSel = s.transit.ctlSel
      ∧ u.restartTag = s.restartTag ∧ u.failing = s.failing
      ∧ u.transit.returned.map some ++ u.transit.order = s.transit.returned.map some ++ s.transit.order
      ∧ (∀ r, u.transit.order.head? ≠ some (some r))
      ∧ u.lamps.phase = s.lamps.phase ∧ u.lamps.cycles = s.lamps.cycles
      ∧ (∀ e, { shelfAt u e with sequence := 0, probeAt := none } = { shelfAt s e with sequence := 0, probeAt := none })
      ∧ (DirtySetsExact s → ∀ k, (linkState u.lamps k).dirty = (linkState s.lamps k).dirty))
    ∧ (calm s).transit.arrivals = s.transit.arrivals ∧ (accepted t s).transit.arrivals = [])
  ∧ (∀ s : State, calm s = passTurn (returned (chooseLink .b (chooseLink .a s)))
      ∧ returned s = { s with transit := { s.transit with
          order := s.transit.order.dropWhile Option.isSome
          returned := s.transit.returned ++ (s.transit.order.takeWhile Option.isSome).filterMap id } }
      ∧ (s.part = .loading ∨ s.transit.arrivals = [] → settle s = calm s))
  ∧ (∀ (h : HostTxn) (rest : List HostTxn) (s v : State), v = calm s → v.transit.arrivals = h :: rest →
      (v.part ≠ .loading ∧ v.transit.order.length < 64 ∧ (roomAsked v h = none ∨ isGranted .upstream v = true) →
        settle s = settle (takeTxn h { v with transit := { v.transit with
          arrivals := rest
          turn := if roomAsked v h = none then v.transit.turn else .deposit } }))
      ∧ (v.part = .loading ∨ 64 ≤ v.transit.order.length
          ∨ (∃ n, roomAsked v h = some n ∧ isGranted .upstream v = false) → settle s = v))
  ∧ (∀ (t : HostTxn) (s : State), PortReady t s → ∀ c ∈ hostRows s.straps t,
      exec c s = .next (calm (takeTxn t (accepted t s))))
  ∧ ∀ (t h : HostTxn) (rest : List HostTxn) (s v : State), s.transit.arrivals ++ [t] = h :: rest →
      v = calm { s with transit := { s.transit with arrivals := h :: rest } } →
      (v.part = .loading ∨ 64 ≤ v.transit.order.length
        ∨ ∃ n, roomAsked v h = some n ∧ isGranted .upstream v = false) →
      ∀ c ∈ hostRows s.straps t, exec c s = .next v

/-! ### Reset -/

/-- The part right after RESET is asserted at power-up: every shadow, table, context, latch, pending set and link record
is empty, FREE, IDLE or UNCONFIGURED, the calendar is 0 and unset, no report is known. Every invariant stated below holds
there. -/
def Obligations.ResetLeavesNothingKnownAndInvariantsHold : Prop :=
  (State.reset.part = .reset ∧ State.reset.pending = []
    ∧ State.reset.transit.regions = [] ∧ State.reset.transit.turn = .upstream
    ∧ (∀ n, (slotAt State.reset n).state = .free) ∧ (∀ m, (boxAt State.reset m).status = .unassigned)
    ∧ (∀ m, (boxAt State.reset m).nonFree = 0 ∧ (boxAt State.reset m).unheardQueue = []
        ∧ (boxAt State.reset m).keptQueue = [])
    ∧ (∀ p, holderAt State.reset p = none)
    ∧ (∀ k, contextAt State.reset k = none) ∧ State.reset.deposit.claims = []
    ∧ (∀ n, (broadcastAt State.reset n).present = false ∧ (broadcastAt State.reset n).live = false
        ∧ (broadcastAt State.reset n).pending = [])
    ∧ State.reset.calendar = ⟨0, 0, 0, 0, false⟩
    ∧ State.reset.sweep.active = false ∧ State.reset.sweep.cursor = 0 ∧ State.reset.sweep.expired = 0
    ∧ State.reset.sweep.skipped = 0 ∧ State.reset.sweep.ended = 0
    ∧ (∀ k, scheduleAt State.reset k = []) ∧ State.reset.greetings.breaks = []
    ∧ (∀ k, latchAt State.reset k = none) ∧ State.reset.greetings.emptySpell = false
    ∧ (∀ e, (shelfAt State.reset e).configured = false ∧ (shelfAt State.reset e).link = .unconfigured
        ∧ (shelfAt State.reset e).lastSent = none ∧ (shelfAt State.reset e).invalidated = false
        ∧ (shelfAt State.reset e).misses = 0 ∧ (shelfAt State.reset e).watchMatch = false
        ∧ (shelfAt State.reset e).sequence = 0 ∧ (shelfAt State.reset e).probeAt = none
        ∧ (shelfAt State.reset e).powerLow = false ∧ (shelfAt State.reset e).composed = Vector.replicate 48 .off)
    ∧ (∀ k, (linkState State.reset.lamps k).dirty = [] ∧ (linkState State.reset.lamps k).cursor = 95
        ∧ (linkState State.reset.lamps k).activity = .idle ∧ (linkState State.reset.lamps k).cadenceDue = false)
    ∧ State.reset.lamps.phase = 0
    ∧ State.reset.reports.producer = 0 ∧ State.reset.reports.consumer = 0 ∧ State.reset.reports.held = []
    ∧ State.reset.reports.writing = none ∧ State.reset.reports.dropped = false ∧ State.reset.reports.latch = none
    ∧ State.reset.reports.base = none ∧ attn State.reset = false
    ∧ State.reset.restartTag = none ∧ State.reset.loader = none ∧ State.reset.failing = none)
  ∧ (PlacesBounded State.reset ∧ RingBounded State.reset ∧ DirtySetsExact State.reset ∧ ImagesComposed State.reset
    ∧ DirectoriesCanonical State.reset ∧ ExtentsApart State.reset ∧ LatchesApart State.reset
    ∧ PositionsHeld State.reset ∧ SourcesKept State.reset ∧ BroadcastCountsExact State.reset
    ∧ SlotCountsExact State.reset ∧ QueuesExact State.reset ∧ NothingCounted State.reset
    ∧ ModesDerived State.reset ∧ RecordingsHeld State.reset ∧ CalendarBounded State.reset ∧ LinksBounded State.reset
    ∧ LoaderPresent State.reset ∧ LoadInOrder State.reset ∧ TurnHome State.reset ∧ HoldersNamed State.reset
    ∧ UnheldUnmapped State.reset)

/-! ### Invariants every step keeps -/

/-- The Outbound Queue never holds more than 32 entries, nor the response order more than 64 transactions. Reports unread
and unwritten together never pass 255, and the ring's indexes stay ring indexes. The calendar and the lamp links keep
their fields in their ranges. A load is in progress, or has failed and drains, just while the part is LOADING, and one
that drains has an entry left to drain (log 37). The loader's reads in the queue are those from the next to be judged on,
in order (how the loader asks for them is the model's choice, log 18), and the records behind are still empty. Under RESET the turn is the upstream port's. -/
def Obligations.StepKeepsBoundsAndLoaderPresent : Prop :=
  (∀ s t, PlacesBounded s → step s = .next t → PlacesBounded t)
  ∧ (∀ s t, RingBounded s → step s = .next t → RingBounded t)
  ∧ (∀ s t, CalendarBounded s → LinksBounded s → step s = .next t → CalendarBounded t ∧ LinksBounded t)
  ∧ (∀ s t, LoaderPresent s → step s = .next t → LoaderPresent t)
  ∧ (∀ s t, LoadInOrder s → LoaderPresent s → step s = .next t → LoadInOrder t)
  ∧ (∀ s t, TurnHome s → step s = .next t → TurnHome t)

/-- Outside LOADING a link's dirty set holds exactly the shelves that still have to be sent; in LOADING, where the entries
are being read, it is a rising list of addresses. While the part is RUNNING every shelf entry's composed image is the one
that the composition's steps give, every mailbox's full flag and lamp mode are those that its record and class give, and
the entry of its lamp position holds that mode; a lamp position that no mailbox holds shows none, and outside RUNNING no
position shows one. -/
def Obligations.StepKeepsLampPlantExact : Prop :=
  (∀ s t, DirtySetsExact s → step s = .next t → DirtySetsExact t)
  ∧ (∀ s t, ImagesComposed s → step s = .next t → ImagesComposed t)
  ∧ (∀ s t, ModesDerived s → PositionsHeld s → DirectoriesCanonical s → step s = .next t → ModesDerived t)
  ∧ (∀ s t, UnheldUnmapped s → PositionsHeld s → step s = .next t → UnheldUnmapped t)

/-- The sparse directories keep their canonical form, so equal directories are equal data. -/
def Obligations.StepKeepsDirectoriesCanonical : Prop :=
  ∀ s t, DirectoriesCanonical s → step s = .next t → DirectoriesCanonical t

/-- The extents of two deposits in progress never share a block. A context in use and a RECORDING slot name each
other. At most one latch is HELD for each mailbox and lane. The lamp position map gives a position to the mailbox that
names it, and to no other: a position that no mailbox names has no holder. -/
def Obligations.StepKeepsDepositsExactAndSingleHolders : Prop :=
  (∀ s t, ExtentsApart s → step s = .next t → ExtentsApart t)
  ∧ (∀ s t, RecordingsHeld s → step s = .next t → RecordingsHeld t)
  ∧ (∀ s t, LatchesApart s → step s = .next t → LatchesApart t)
  ∧ (∀ s t, PositionsHeld s → step s = .next t → PositionsHeld t)
  ∧ (∀ s t, HoldersNamed s → LoadInOrder s → step s = .next t → HoldersNamed t)

/-- A slot named as source by a LIVE broadcast is NEW, HEARD or SAVED; each mailbox's unheard-broadcast counts are the
numbers of LIVE broadcasts whose pending set holds it. -/
def Obligations.StepKeepsBroadcastsExact : Prop :=
  (∀ s t, SourcesKept s → step s = .next t → SourcesKept t)
  ∧ (∀ s t, BroadcastCountsExact s → DirectoriesCanonical s → step s = .next t → BroadcastCountsExact t)

/-- While the part is RUNNING each mailbox's counts are those of the slots it owns. -/
def Obligations.StepKeepsSlotCountsExact : Prop :=
  ∀ s t, SlotCountsExact s → NothingCounted s → DirectoriesCanonical s → step s = .next t →
    SlotCountsExact t ∧ NothingCounted t

/-- While the part is RUNNING each play queue holds each slot of its kind once, in the order of its rule. -/
def Obligations.StepKeepsQueuesExact : Prop :=
  ∀ s t, QueuesExact s → NothingCounted s → DirectoriesCanonical s → step s = .next t → QueuesExact t

/-! ### Message slots -/

/-- A SLOT_DIR write taken at once is judged record by record in ascending order and forwarded with the host's
address, kind and length, its stamp writes directly behind it as one group. A MAILBOX_DIR write taken at once is
judged record by record in ascending order and forwarded alone. A record is judged when a word of the write touches it,
by the number that its address gives, on the state that the records before it left. Within a slot record the stamped and
derived bytes are withheld, then owner, source, first block, urgent and state are judged in this order; within a mailbox
record the derived and acknowledge bytes, then status, class, capacity, lamp, schedule, the four locators, absence-until
and extension, and the acknowledge field last. A record's causes become reports in their order, naming the slot and the
owner it then has, or the mailbox (behind a BROADCAST_ENDED of its removal and before one of its acknowledgement, log 23);
the write is ADJUSTED exactly when some record gave a cause. A state, status or lamp byte that changes nothing needs
nothing, and a byte for which the host presents no lane is not enabled (log 33). -/
def Obligations.DirectoryWritesAreJudgedAndForwarded : Prop :=
  (∀ (base : Nat) (w : HostWrite) (s : State), PortReady (.write w) s → FallsIn .slotDir base (.write w) s →
      ∀ x, x = judgeSlots (firstRecord base w.addr.toNat 32) (coveredRecords w.addr.toNat w.words.toNat 32)
        ⟨accepted (.write w) s, lineLanes w, false, []⟩ →
      exec (.slotDirWrite w) s = .next (calm (joinOrder none
        (place (⟨.write, w.addr.toNat, w.words.toNat, linePart w x.line, .host x.adjusted []⟩
          :: stampEntries x.state base (x.state.transit.joined + 1) x.stamps) x.state))))
  ∧ (∀ (base : Nat) (w : HostWrite) (s : State), PortReady (.write w) s → FallsIn .mailboxDir base (.write w) s →
      ∀ x, x = judgeBoxes (firstRecord base w.addr.toNat 64) (coveredRecords w.addr.toNat w.words.toNat 64)
        ⟨accepted (.write w) s, lineLanes w, false, []⟩ →
      exec (.mailboxDirWrite w) s = .next (calm (joinOrder none
        (place [⟨.write, w.addr.toNat, w.words.toNat, linePart w x.line, .host x.adjusted []⟩] x.state))))
  ∧ (∀ (base addr words size : Nat), size = 32 ∨ size = 64 → base % 128 = 0 → base ≤ addr → 1 ≤ words →
      addr % 128 + 8 * words ≤ 128 →
      (∀ n, (∃ i ∈ coveredRecords addr words size, n = firstRecord base addr size + i) ↔
        base + n * size < addr + 8 * words ∧ addr < base + n * size + size)
      ∧ (coveredRecords addr words size).Pairwise (· < ·)
      ∧ firstRecord base addr size = (addr - base) / 128 * (128 / size))
  ∧ (∀ (w : HostWrite) (line : List Lane),
      (lineLanes w).length = 128 ∧ linePart w line = (line.drop (w.addr.toNat % 128)).take (8 * w.words.toNat)
      ∧ ∀ k, k < 128 → (lineLanes w)[k]? = some (
          if w.addr.toNat % 128 ≤ k ∧ k < w.addr.toNat % 128 + 8 * w.words.toNat then
            (w.lanes[k - w.addr.toNat % 128]?).getD ⟨false, 0⟩
          else ⟨false, 0⟩))
  ∧ (∀ (first i : Nat) (later : List Nat) (x : LineWork),
      judgeSlots first [] x = x
      ∧ (∀ j, j = judgeSlot (first + i) ((x.line.drop (i * 32)).take 32) x.state →
        judgeSlots first (i :: later) x = judgeSlots first later
          ⟨j.state, x.line.take (i * 32) ++ j.lanes ++ x.line.drop (i * 32 + 32), x.adjusted || !j.causes.isEmpty,
            if j.stamp then x.stamps ++ [first + i] else x.stamps⟩)
      ∧ judgeBoxes first [] x = x
      ∧ ∀ j, j = judgeBox (first + i) ((x.line.drop (i * 64)).take 64) x.state →
        judgeBoxes first (i :: later) x = judgeBoxes first later
          ⟨j.state, x.line.take (i * 64) ++ j.lanes ++ x.line.drop (i * 64 + 64), x.adjusted || !j.causes.isEmpty,
            x.stamps⟩)
  ∧ (∀ (n : Nat) (lanes : List Lane) (s : State) (j : SlotWork),
      j = judgeState n (judgeUrgent n (judgeFirstBlock n (judgeSource n (judgeOwner n
        ⟨s, withhold 28 4 (withhold 8 16 lanes), [], false⟩)))) →
      judgeSlot n lanes s = ⟨j.causes.foldl
        (fun u cause => makeReport cause (some (slotAt j.state n).owner) (some n) none none u) j.state,
        j.lanes, j.causes, j.stamp⟩)
  ∧ (∀ (m : Nat) (lanes : List Lane) (s : State) (j : BoxWork),
      j = judgeExtension m (judgeAbsenceUntil m (judgeAbsence m (judgeOnBreak m (judgeAfterHours m (judgePrimary m
        (judgeSchedule m (judgeLamp m (judgeCapacity m (judgeClass m (judgeStatus m
          ⟨s, withhold 6 1 (withhold 48 8 (withhold 32 15 lanes)), []⟩)))))))))) →
      judgeBox m lanes s = judgeAcknowledge m (if anyEnabled lanes 6 1 then byteOf (laneData lanes) 6 else 0)
        ⟨j.causes.foldl (fun u cause => makeReport cause (some m) none none none u) j.state, j.lanes, j.causes⟩)
  ∧ (∀ (base index n : Nat) (later : List Nat) (s : State),
      stampEntries s base index [] = []
      ∧ stampEntries s base index (n :: later) = ⟨.write, base + n * 32 + 8, 2,
          (stampedBytes n index (slotAt s n)).map (fun b => ⟨true, b⟩), .stamp n⟩
        :: stampEntries s base (index + 1) later)
  ∧ (∀ (n : Nat) (j : SlotWork),
      anyEnabled j.lanes 2 1 = false ∨ byteOf (laneData j.lanes) 2 = slotStateCode (slotAt j.state n).state →
      judgeState n j = j)
  ∧ ∀ (m : Nat) (j : BoxWork),
      (anyEnabled j.lanes 0 1 = false ∨ byteOf (laneData j.lanes) 0 = statusCode (boxAt j.state m).status →
        judgeStatus m j = j)
      ∧ (anyEnabled j.lanes 4 2 = false
          ∨ mergedField j.lanes 4 2 (lampNat (boxAt j.state m)) = lampNat (boxAt j.state m) → judgeLamp m j = j)

/-- The claim checks pass exactly when the mailbox is ACTIVE and has room, the extent lies in one AUDIO region and shares
no block with a deposit in progress, and a context is FREE; the claim then gets the lowest-numbered one. The checks are
judged in that order, and the first that fails gives its report. -/
def Obligations.ClaimPassesExactlyWhen : Prop :=
  (∀ (s : State) (r : SlotRec) (k : Nat), 0 < (classOf s r.owner).maxDeposit →
    (claimJudgement s r = .ok k ↔
      (boxAt s r.owner).status = .active ∧ (boxAt s r.owner).nonFree < (boxAt s r.owner).capacity
      ∧ r.firstBlock + (classOf s r.owner).maxDeposit ≤ 16777216
      ∧ (∃ g ∈ s.transit.regions, g.kind = .audio ∧ g.base ≤ 4096 * r.firstBlock
          ∧ 4096 * (r.firstBlock + (classOf s r.owner).maxDeposit) ≤ g.base + g.size)
      ∧ (∀ i c, contextAt s i = some c →
          ¬ (r.firstBlock < c.first + c.length ∧ c.first < r.firstBlock + (classOf s r.owner).maxDeposit))
      ∧ k < 48 ∧ contextAt s k = none ∧ ∀ i, i < k → contextAt s i ≠ none))
  ∧ ∀ (s : State) (r : SlotRec),
    let b := boxAt s r.owner
    let length := (classOf s r.owner).maxDeposit
    let inside := r.firstBlock + length ≤ 16777216 ∧ ∃ g ∈ s.transit.regions, g.kind = .audio
      ∧ g.base ≤ 4096 * r.firstBlock ∧ 4096 * (r.firstBlock + length) ≤ g.base + g.size
    let clashes := fun c : Context => r.firstBlock < c.first + c.length ∧ c.first < r.firstBlock + length
    (b.status ≠ .active → claimJudgement s r = .error (.mailboxClosed b.status))
    ∧ (b.status = .active → b.capacity ≤ b.nonFree → claimJudgement s r = .error (.mailboxFull b.capacity))
    ∧ (b.status = .active → b.nonFree < b.capacity → ¬ inside →
        claimJudgement s r = .error (.extentOutside r.firstBlock))
    ∧ (∀ i c, b.status = .active → b.nonFree < b.capacity → inside → contextAt s i = some c → clashes c →
        (∀ h d, h < i → contextAt s h = some d → ¬ clashes d) → claimJudgement s r = .error (.extentClash c.slot))
    ∧ (b.status = .active → b.nonFree < b.capacity → inside → (∀ i c, contextAt s i = some c → ¬ clashes c) →
        (∀ i, i < 48 → contextAt s i ≠ none) → claimJudgement s r = .error .noChannel)

/-- A write of RECORDING to a FREE slot whose claim passes: the slot is RECORDING with fresh stamps, the context is
OPEN for it, its owner's non-FREE count rises by one and its flag and mode follow, the state byte is forwarded and a stamp
write is caused; no other slot, mailbox or context changes, and nothing else of the part but what the Lamp Composer
derives. A claim that fails a check is withheld with that check's report and changes
nothing. -/
def Obligations.ClaimBeginsRecordingOrIsWithheld : Prop :=
  (∀ (n k : Nat) (j : SlotWork), anyEnabled j.lanes 2 1 = true → byteOf (laneData j.lanes) 2 = 1 →
      (slotAt j.state n).state = .free → claimJudgement j.state (slotAt j.state n) = .ok k →
      let r := slotAt j.state n
      let t := (judgeState n j).state
      (judgeState n j).lanes = j.lanes ∧ (judgeState n j).causes = j.causes ∧ (judgeState n j).stamp = true
      ∧ slotAt t n = { r with
          state := .recording, expiry := .absent none, level := ⟨0, 0, 0⟩, verdict := .none, context := some k,
          stamp := ⟨if j.state.calendar.isSet then j.state.calendar.day else 0, j.state.calendar.minute,
            j.state.calendar.second, !j.state.calendar.isSet⟩ }
      ∧ contextAt t k = some ⟨n, r.owner, r.source, r.firstBlock, (classOf j.state r.owner).maxDeposit,
          .opened (j.state.now + 32768 * (classOf j.state r.owner).idle), (classOf j.state r.owner).idle, ⟨0, 0, 0⟩⟩
      ∧ boxAt t r.owner = afresh j.state
          { boxAt j.state r.owner with nonFree := (boxAt j.state r.owner).nonFree + 1 }
      ∧ (∀ i, i ≠ n → slotAt t i = slotAt j.state i) ∧ (∀ m, m ≠ r.owner → boxAt t m = boxAt j.state m)
      ∧ (∀ i, i ≠ k → contextAt t i = contextAt j.state i)
      ∧ t = { j.state with slots := t.slots, boxes := t.boxes, lamps := t.lamps
                           deposit := { j.state.deposit with contexts := t.deposit.contexts } }
      ∧ OnlyImagesChange j.state t)
  ∧ (∀ (n : Nat) (cause : ReportBody) (j : SlotWork), anyEnabled j.lanes 2 1 = true →
      byteOf (laneData j.lanes) 2 = 1 → (slotAt j.state n).state = .free →
      claimJudgement j.state (slotAt j.state n) = .error cause →
      judgeState n j = { j with lanes := withhold 2 1 j.lanes, causes := j.causes ++ [cause] })

/-- A commit: by the meter of the slot's context it is SILENT, its state byte replaced by DISCARDED and reported, or
KEPT, the slot then NEW with its expiry day; the meter is stamped, the context is released and its waiting timeout claim,
if it is LAPSED, withdrawn, a stamp write is caused; no other slot or mailbox changes, the owner's record only in its
counts, queues, flag and lamp mode, and nothing else of the part but what the Lamp Composer derives. -/
def Obligations.CommitGivesTheVerdict : Prop :=
  ∀ (n k : Nat) (c : Context) (j : SlotWork), anyEnabled j.lanes 2 1 = true → byteOf (laneData j.lanes) 2 = 2 →
    (slotAt j.state n).state = .recording → (slotAt j.state n).context = some k → contextAt j.state k = some c →
    let r := slotAt j.state n
    let minimum := (classOf j.state r.owner).minVoiced
    let days := (classOf j.state r.owner).retainNew
    let t := (judgeState n j).state
    (judgeState n j).stamp = true ∧ contextAt t k = none
    ∧ (∀ i, i ≠ k → contextAt t i = contextAt j.state i)
    ∧ (∀ i, i ≠ n → slotAt t i = slotAt j.state i) ∧ (∀ m, m ≠ r.owner → boxAt t m = boxAt j.state m)
    ∧ OnlyCountsFollow r.owner j.state t
    ∧ t = { j.state with slots := t.slots, boxes := t.boxes, lamps := t.lamps
                         deposit := { j.state.deposit with
                           contexts := t.deposit.contexts
                           claims := j.state.deposit.claims.filter (·.context != k) } }
    ∧ OnlyImagesChange j.state t
    ∧ (0 < minimum ∧ c.level.voiced < minimum →
        slotAt t n = { r with state := .discarded, level := c.level, verdict := .silent, context := none }
        ∧ (judgeState n j).lanes = replaceByte 2 5 j.lanes
        ∧ (judgeState n j).causes = j.causes ++ [.depositSilent c.level.voiced minimum])
    ∧ (¬ (0 < minimum ∧ c.level.voiced < minimum) →
        slotAt t n = { r with
          state := .new, level := c.level, verdict := .kept, context := none,
          expiry := if days = 0 ∨ j.state.calendar.isSet = false then .absent none
            else .on (min 65535 (j.state.calendar.day + days)) }
        ∧ (judgeState n j).lanes = j.lanes ∧ (judgeState n j).causes = j.causes)

/-- An abandon frees the slot and its context, whose waiting timeout claim is withdrawn; its stamps stay and no stamp
write is caused. A delete of a NEW, HEARD, SAVED, DISCARDED or EXPIRED slot frees it when no LIVE broadcast names it, and
is withheld with BROADCAST_PINNED otherwise. Of the owner's record only the counts, queues, flag and lamp mode can differ,
and nothing else of the part changes but what the Lamp Composer derives. -/
def Obligations.AbandonAndDeleteFreeTheSlot : Prop :=
  (∀ (n k : Nat) (c : Context) (j : SlotWork), anyEnabled j.lanes 2 1 = true → byteOf (laneData j.lanes) 2 = 0 →
      (slotAt j.state n).state = .recording → (slotAt j.state n).context = some k → contextAt j.state k = some c →
      let r := slotAt j.state n
      let t := (judgeState n j).state
      (judgeState n j).lanes = j.lanes ∧ (judgeState n j).causes = j.causes ∧ (judgeState n j).stamp = j.stamp
      ∧ slotAt t n = { r with state := .free, context := none } ∧ contextAt t k = none
      ∧ (∀ i, i ≠ k → contextAt t i = contextAt j.state i)
      ∧ boxAt t r.owner = afresh j.state
          { boxAt j.state r.owner with nonFree := (boxAt j.state r.owner).nonFree - 1 }
      ∧ (∀ i, i ≠ n → slotAt t i = slotAt j.state i) ∧ (∀ m, m ≠ r.owner → boxAt t m = boxAt j.state m)
      ∧ t = { j.state with slots := t.slots, boxes := t.boxes, lamps := t.lamps
                           deposit := { j.state.deposit with
                             contexts := t.deposit.contexts
                             claims := j.state.deposit.claims.filter (·.context != k) } }
      ∧ OnlyImagesChange j.state t)
  ∧ (∀ (n : Nat) (j : SlotWork), anyEnabled j.lanes 2 1 = true → byteOf (laneData j.lanes) 2 = 0 →
      (slotAt j.state n).state ≠ .free → (slotAt j.state n).state ≠ .recording →
      let r := slotAt j.state n
      let pins := j.state.broadcasts.toList.countP fun b => b.live && b.source == n
      let t := (judgeState n j).state
      (pins = 0 →
        slotAt t n = { r with state := .free }
        ∧ (judgeState n j).lanes = j.lanes ∧ (judgeState n j).causes = j.causes ∧ (judgeState n j).stamp = j.stamp
        ∧ (boxAt t r.owner).nonFree = (boxAt j.state r.owner).nonFree - 1 ∧ OnlyCountsFollow r.owner j.state t
        ∧ (∀ i, i ≠ n → slotAt t i = slotAt j.state i) ∧ (∀ m, m ≠ r.owner → boxAt t m = boxAt j.state m)
        ∧ t = { j.state with slots := t.slots, boxes := t.boxes, lamps := t.lamps } ∧ OnlyImagesChange j.state t)
      ∧ (pins ≠ 0 → judgeState n j =
          { j with lanes := withhold 2 1 j.lanes, causes := j.causes ++ [.broadcastPinned pins] }))

/-- A move among NEW, HEARD and SAVED sets the state and restamps the expiry day for the new state, and causes a stamp
write; deposit stamp, level and verdict stay; of the owner's record only the counts, queues, flag and lamp mode can
differ, and the rest of the part stays but what the Lamp Composer derives. -/
def Obligations.MoveRestampsExpiry : Prop :=
  ∀ (n : Nat) (target : SlotState) (j : SlotWork), anyEnabled j.lanes 2 1 = true →
    byteOf (laneData j.lanes) 2 = slotStateCode target → isKept target = true →
    isKept (slotAt j.state n).state = true → (slotAt j.state n).state ≠ target →
    let r := slotAt j.state n
    let c := classOf j.state r.owner
    let days := if target = .new then c.retainNew else if target = .heard then c.retainHeard else c.retainSaved
    let t := (judgeState n j).state
    (judgeState n j).lanes = j.lanes ∧ (judgeState n j).causes = j.causes ∧ (judgeState n j).stamp = true
    ∧ slotAt t n = { r with
        state := target,
        expiry := if days = 0 ∨ j.state.calendar.isSet = false then .absent none
          else .on (min 65535 (j.state.calendar.day + days)) }
    ∧ (∀ i, i ≠ n → slotAt t i = slotAt j.state i) ∧ (∀ m, m ≠ r.owner → boxAt t m = boxAt j.state m)
    ∧ OnlyCountsFollow r.owner j.state t
    ∧ t = { j.state with slots := t.slots, boxes := t.boxes, lamps := t.lamps } ∧ OnlyImagesChange j.state t

/-- A state that the slot's state does not admit is withheld with BAD_TRANSITION, and a write of NEW to a slot discarded
by a timeout or a load with LATE_COMMIT; nothing else changes. -/
def Obligations.RefusedStateIsWithheld : Prop :=
  ∀ (n code : Nat) (j : SlotWork), anyEnabled j.lanes 2 1 = true → byteOf (laneData j.lanes) 2 = code →
    code ≠ slotStateCode (slotAt j.state n).state →
    (6 < code ∨ code = 5 ∨ code = 6 ∨ (code = 1 ∧ (slotAt j.state n).state ≠ .free)
      ∨ ((code = 3 ∨ code = 4) ∧ isKept (slotAt j.state n).state = false)
      ∨ (code = 2 ∧ isKept (slotAt j.state n).state = false ∧ (slotAt j.state n).state ≠ .recording)) →
    let r := slotAt j.state n
    judgeState n j = { j with
      lanes := withhold 2 1 j.lanes
      causes := j.causes ++ [if code = 2 ∧ r.state = .discarded ∧ (r.verdict = .timeout ∨ r.verdict = .load)
        then .lateCommit r.verdict else .badTransition r.state code] }

/-- The bytes of the stamped and derived fields are withheld without a cause, the host's own bytes pass, and a record
that enables only these changes nothing and reports nothing. A host field is judged by the value its enabled bytes form
with the shadow's present value of the others, and needs nothing when that value is held already. Owner, source and first
block are accepted while the slot is FREE; a value out of range, and a change while it is not FREE, is withheld with
BAD_OWNER or FIELD_REFUSED. Urgent is accepted in any state when its value is a code, and its owner's urgent count
follows. To withhold bytes clears their enables and nothing else; to replace a byte changes its data and nothing else.
Fields of several bytes are little-endian. -/
def Obligations.StampedBytesAreWithheldAndHostFieldsJudged : Prop :=
  (∀ (n : Nat) (lanes : List Lane) (s : State),
    (∀ k l, (8 ≤ k ∧ k < 24) ∨ (28 ≤ k ∧ k < 32) → lanes[k]? = some l →
      (judgeSlot n lanes s).lanes[k]? = some ⟨false, l.data⟩)
    ∧ (∀ k, 24 ≤ k ∧ k < 28 → (judgeSlot n lanes s).lanes[k]? = lanes[k]?)
    ∧ ((∀ k l, k < 8 → lanes[k]? = some l → l.enabled = false) →
      (judgeSlot n lanes s).state = s ∧ (judgeSlot n lanes s).causes = [] ∧ (judgeSlot n lanes s).stamp = false))
  ∧ (∀ (lanes : List Lane) (offset size k : Nat) (b : Byte),
      (withhold offset size lanes)[k]?
        = lanes[k]?.map (fun l => if offset ≤ k ∧ k < offset + size then ⟨false, l.data⟩ else l)
      ∧ (replaceByte offset b lanes)[k]? = lanes[k]?.map (fun l => if k = offset then ⟨l.enabled, b⟩ else l))
  ∧ (∀ (lanes : List Lane) (offset size held k : Nat) (l : Lane), k < size → offset + size ≤ lanes.length →
      lanes[offset + k]? = some l → (leBytes size (mergedField lanes offset size held))[k]? =
        some (if l.enabled then l.data else BitVec.ofNat 8 (held / 256 ^ k)))
  ∧ (∀ (lanes : List Lane) (bytes : List Byte) (offset size v k : Nat),
      (anyEnabled lanes offset size = true ↔ ∃ i l, i < size ∧ lanes[offset + i]? = some l ∧ l.enabled = true)
      ∧ (laneData lanes)[k]? = lanes[k]?.map (·.data)
      ∧ (leBytes size v)[k]? = (if k < size then some (BitVec.ofNat 8 (v / 256 ^ k)) else none)
      ∧ byteOf bytes k = (bytes[k]?.getD 0).toNat ∧ fieldOf bytes offset 0 = 0
      ∧ fieldOf bytes offset (size + 1) = byteOf bytes offset + 256 * fieldOf bytes (offset + 1) size
      ∧ mergedField lanes offset size v < 256 ^ size)
  ∧ ∀ (n : Nat) (j : SlotWork),
    let r := slotAt j.state n
    let refused := fun (offset size : Nat) (cause : ReportBody) =>
      ({ j with lanes := withhold offset size j.lanes, causes := j.causes ++ [cause] } : SlotWork)
    let entered := fun (u : SlotWork) (r' : SlotRec) => u.lanes = j.lanes ∧ u.causes = j.causes ∧ u.stamp = j.stamp
      ∧ slotAt u.state n = r' ∧ (∀ i, i ≠ n → slotAt u.state i = slotAt j.state i)
      ∧ (∀ m, m ≠ r.owner → boxAt u.state m = boxAt j.state m)
      ∧ u.state = { j.state with slots := u.state.slots, boxes := u.state.boxes, lamps := u.state.lamps }
      ∧ OnlyImagesChange j.state u.state
    (∀ v, v = mergedField j.lanes 0 2 r.owner →
      (anyEnabled j.lanes 0 2 = false ∨ v = r.owner → judgeOwner n j = j)
      ∧ (anyEnabled j.lanes 0 2 = true → v ≠ r.owner →
        (8191 < v → judgeOwner n j = refused 0 2 (.badOwner .range))
        ∧ (v ≤ 8191 → r.state ≠ .free → judgeOwner n j = refused 0 2 (.badOwner .notFree))
        ∧ (v ≤ 8191 → r.state = .free → entered (judgeOwner n j) { r with owner := v }
            ∧ (judgeOwner n j).state.boxes = j.state.boxes)))
    ∧ (∀ v, v = mergedField j.lanes 4 1 r.source →
      (anyEnabled j.lanes 4 1 = false ∨ v = r.source → judgeSource n j = j)
      ∧ (anyEnabled j.lanes 4 1 = true → v ≠ r.source →
        (3 < v ∨ r.state ≠ .free → judgeSource n j = refused 4 1 (.fieldRefused .source))
        ∧ (v ≤ 3 → r.state = .free → entered (judgeSource n j) { r with source := v }
            ∧ (judgeSource n j).state.boxes = j.state.boxes)))
    ∧ (∀ v, v = mergedField j.lanes 5 3 r.firstBlock →
      (anyEnabled j.lanes 5 3 = false ∨ v = r.firstBlock → judgeFirstBlock n j = j)
      ∧ (anyEnabled j.lanes 5 3 = true → v ≠ r.firstBlock →
        (r.state ≠ .free → judgeFirstBlock n j = refused 5 3 (.fieldRefused .audioBlock))
        ∧ (r.state = .free → entered (judgeFirstBlock n j) { r with firstBlock := v }
            ∧ (judgeFirstBlock n j).state.boxes = j.state.boxes)))
    ∧ (∀ v, v = byteOf (laneData j.lanes) 3 →
      (anyEnabled j.lanes 3 1 = false ∨ v = (if r.urgent then 1 else 0) → judgeUrgent n j = j)
      ∧ (anyEnabled j.lanes 3 1 = true → 1 < v → judgeUrgent n j = refused 3 1 (.fieldRefused .urgent))
      ∧ (anyEnabled j.lanes 3 1 = true → v ≤ 1 → v ≠ (if r.urgent then 1 else 0) →
        entered (judgeUrgent n j) { r with urgent := v == 1 }
        ∧ (boxAt (judgeUrgent n j).state r.owner).urgentNew = (boxAt j.state r.owner).urgentNew
            - (if r.state = .new ∧ r.urgent = true then 1 else 0) + (if r.state = .new ∧ v = 1 then 1 else 0)
        ∧ (boxAt (judgeUrgent n j).state r.owner).new = (boxAt j.state r.owner).new
            - (if r.state = .new then 1 else 0) + (if r.state = .new then 1 else 0)))

/-- A slot is due on a sweep exactly when it is NEW, HEARD or SAVED and has an expiry day not later than the sweep
day. -/
def Obligations.SlotIsDueExactlyWhen : Prop :=
  ∀ (day : Nat) (r : SlotRec), isDue day r = true ↔
    (r.state = .new ∨ r.state = .heard ∨ r.state = .saved) ∧ ∃ d, r.expiry = .on d ∧ d ≤ day

/-- A SLOT_DIR read taken at once is forwarded with its overlay sampled: the stamped bytes, the next slot of the
owner's queue and the pin count; the host's bytes are memory's. The next slot is the one behind it in the Unheard queue
for a NEW slot, in the Kept queue for a HEARD or SAVED one, and none for another. A MAILBOX_DIR read taken at once is
forwarded with its overlay sampled: the acknowledge byte zero, the counts, the full flag, the lamp mode, the greeting
choice, the queue heads and the non-FREE count; other bytes are memory's. The bytes of a field that holds nothing are
free values (log 11, 14), of which nothing is said. -/
def Obligations.DirectoryReadsAreOverlaid : Prop :=
  ((∀ (base : Nat) (r : HostRead) (s : State), PortReady (.read r) s → FallsIn .slotDir base (.read r) s →
      exec (.slotDirRead r) s = .next (calm (joinOrder none (place
        [⟨.read, r.addr.toNat, r.words.toNat, [], .host false (overlayPart r ((List.range 4).flatMap fun i =>
          slotOverlay s.transit.joined (accepted (.read r) s) (firstRecord base r.addr.toNat 32 + i)))⟩]
        (accepted (.read r) s)))))
    ∧ ∀ (index n : Nat) (s : State), (slotOverlay index s n).length = 32
        ∧ (∀ k, k < 8 ∨ (24 ≤ k ∧ k < 28) → (slotOverlay index s n)[k]? = some none)
        ∧ (∀ k, k < 16 → (slotOverlay index s n)[8 + k]? = ((stampedBytes n index (slotAt s n))[k]?).map some)
        ∧ (slotOverlay index s n)[30]? = some (some (if (nextInQueue s n).isSome then 1 else 0))
        ∧ (slotOverlay index s n)[31]? = some (some (BitVec.ofNat 8 (pinCount s n)))
        ∧ (∀ x, nextInQueue s n = some x →
            (slotOverlay index s n)[28]? = some (some (BitVec.ofNat 8 x))
            ∧ (slotOverlay index s n)[29]? = some (some (BitVec.ofNat 8 (x / 256))))
        ∧ (let o := slotOverlay index s n
          let r := slotAt s n
          Shows o 8 2 r.stamp.day ∧ Shows o 10 2 r.stamp.minute ∧ Shows o 12 1 r.stamp.second
          ∧ Shows o 13 1 (if r.stamp.unset then 1 else 0)
          ∧ (∀ d, r.expiry = .on d ∨ r.expiry = .absent (some d) → Shows o 14 2 d)
          ∧ (∀ d, r.expiry = .on d → Shows o 16 1 1) ∧ (∀ h, r.expiry = .absent h → Shows o 16 1 0)
          ∧ Shows o 17 1 (match r.verdict with | .none => 0 | .kept => 1 | .silent => 2 | .timeout => 3 | .load => 4)
          ∧ Shows o 18 2 r.level.peak ∧ Shows o 20 2 r.level.voiced ∧ Shows o 22 2 r.level.clipped
          ∧ (∀ ahead x behind, n ∉ ahead →
              (r.state = .new → (boxAt s r.owner).unheardQueue = ahead ++ n :: x :: behind →
                nextInQueue s n = some x)
              ∧ (r.state = .heard ∨ r.state = .saved → (boxAt s r.owner).keptQueue = ahead ++ n :: x :: behind →
                nextInQueue s n = some x))
          ∧ (∀ ahead, n ∉ ahead →
              (r.state = .new → (boxAt s r.owner).unheardQueue = ahead ++ [n] → nextInQueue s n = none)
              ∧ (r.state = .heard ∨ r.state = .saved → (boxAt s r.owner).keptQueue = ahead ++ [n] →
                nextInQueue s n = none))
          ∧ (r.state ≠ .new → r.state ≠ .heard → r.state ≠ .saved → nextInQueue s n = none)
          ∧ pinCount s n = s.broadcasts.toList.countP (fun b => b.live && b.source == n)))
  ∧ ((∀ (base : Nat) (r : HostRead) (s : State), PortReady (.read r) s → FallsIn .mailboxDir base (.read r) s →
      exec (.mailboxDirRead r) s = .next (calm (joinOrder none (place
        [⟨.read, r.addr.toNat, r.words.toNat, [], .host false (overlayPart r ((List.range 2).flatMap fun i =>
          mailboxOverlay s.transit.joined (accepted (.read r) s) (firstRecord base r.addr.toNat 64 + i)))⟩]
        (accepted (.read r) s)))))
    ∧ ∀ (index m : Nat) (s : State), (mailboxOverlay index s m).length = 64
        ∧ (∀ k, k < 6 ∨ (7 ≤ k ∧ k < 32) ∨ k = 47 ∨ (56 ≤ k ∧ k < 64) → (mailboxOverlay index s m)[k]? = some none)
        ∧ (mailboxOverlay index s m)[6]? = some (some 0)
        ∧ (mailboxOverlay index s m)[44]? = some (some (if (boxAt s m).full then 1 else 0))
        ∧ (mailboxOverlay index s m)[45]? = some (some (BitVec.ofNat 8 (modeCode (boxAt s m).mode)))
        ∧ (mailboxOverlay index s m)[46]? = some (some (BitVec.ofNat 8 (greetingCode (selectGreeting s m))))
        ∧ (mailboxOverlay index s m)[32]? = some (some (BitVec.ofNat 8 (min 65535 (boxAt s m).new)))
        ∧ (mailboxOverlay index s m)[33]? = some (some (BitVec.ofNat 8 (min 65535 (boxAt s m).new / 256)))
        ∧ (let o := mailboxOverlay index s m
          let b := boxAt s m
          Shows o 34 2 (min 65535 b.urgentNew) ∧ Shows o 36 2 (min 65535 b.heard)
          ∧ Shows o 38 2 (min 65535 b.saved) ∧ Shows o 40 2 (min 65535 b.spent)
          ∧ Shows o 42 1 b.unheard ∧ Shows o 43 1 b.urgentUnheard
          ∧ Shows o 45 1 (match b.mode with | .off => 0 | .steady => 1 | .slow => 2 | .fast => 3)
          ∧ Shows o 46 1 (match selectGreeting s m with
              | .primary => 0 | .afterHours => 1 | .onBreak => 2 | .absence => 3 | .system => 4 | .none => 5)
          ∧ (∀ x rest, b.unheardQueue = x :: rest → Shows o 48 2 x ∧ Shows o 52 1 1)
          ∧ (b.unheardQueue = [] → Shows o 52 1 0)
          ∧ (∀ x rest, b.keptQueue = x :: rest → Shows o 50 2 x ∧ Shows o 53 1 1)
          ∧ (b.keptQueue = [] → Shows o 53 1 0)
          ∧ Shows o 54 2 (min 65535 b.nonFree)))

/-! ### Mailboxes -/

/-- A status write: UNASSIGNED is withheld with MAILBOX_NOT_EMPTY while the box owns a slot, and takes the box out of
every pending set otherwise, ending by all-heard each broadcast whose last member it was, in ascending entry order (the
order is the model's choice, log 38), and changing no other mailbox or broadcast; ACTIVE and SUSPENDED are accepted, the
flag and mode following; an unknown code is withheld. Nothing else of the part changes but what the Lamp Composer
derives. -/
def Obligations.StatusWriteIsJudged : Prop :=
  ∀ (m v : Nat) (j : BoxWork), anyEnabled j.lanes 0 1 = true → byteOf (laneData j.lanes) 0 = v →
    v ≠ statusCode (boxAt j.state m).status →
    let t := (judgeStatus m j).state
    (2 < v → judgeStatus m j =
      { j with lanes := withhold 0 1 j.lanes, causes := j.causes ++ [.fieldRefused .status] })
    ∧ (v = 0 → 0 < (boxAt j.state m).nonFree → judgeStatus m j =
        { j with lanes := withhold 0 1 j.lanes, causes := j.causes ++ [.mailboxNotEmpty (boxAt j.state m).nonFree] })
    ∧ (v = 0 → (boxAt j.state m).nonFree = 0 →
        (judgeStatus m j).lanes = j.lanes ∧ (judgeStatus m j).causes = j.causes
        ∧ t = { j.state with
            boxes := t.boxes, broadcasts := t.broadcasts, lamps := t.lamps, reports := t.reports }
        ∧ OnlyImagesChange j.state t
        ∧ boxAt t m = afresh j.state { boxAt j.state m with status := .unassigned, unheard := 0, urgentUnheard := 0 }
        ∧ (∀ n, (broadcastAt t n).live = true → m ∉ (broadcastAt t n).pending)
        ∧ (∀ i, i ≠ m → boxAt t i = boxAt j.state i)
        ∧ (∀ n, let b := broadcastAt j.state n
            let others := b.pending.filter (· != m)
            broadcastAt t n = if b.live = true ∧ m ∈ b.pending
              then { b with live := decide (others ≠ []), pending := others } else b)
        ∧ t.reports = ((List.range 16).foldl (fun u n =>
            let b := broadcastAt j.state n
            if b.live = true ∧ m ∈ b.pending ∧ b.pending.filter (· != m) = [] then
              makeReport (.broadcastEnded (n + 1) .allHeard 0) (some m) (some b.source) none none u
            else u) j.state).reports)
    ∧ (v = 1 ∨ v = 2 →
        (judgeStatus m j).lanes = j.lanes ∧ (judgeStatus m j).causes = j.causes
        ∧ boxAt t m = afresh j.state { boxAt j.state m with status := if v = 1 then .active else .suspended }
        ∧ (∀ i, i ≠ m → boxAt t i = boxAt j.state i)
        ∧ t = { j.state with boxes := t.boxes, lamps := t.lamps } ∧ OnlyImagesChange j.state t)

/-- The derived lamp mode of a mailbox (R128). The mailbox fields with a value check alone: class and capacity, whose
change derives flag and mode afresh; schedule, absence-until, extension and the four locators, which no derived field
follows. Each is accepted in its range or absent, and withheld with FIELD_REFUSED otherwise. -/
def Obligations.LampModeAndPlainMailboxFields : Prop :=
  (∀ (c : ClassEntry) (b : MailboxRec),
      (b.status ≠ .active → derivedMode c b = .off)
      ∧ (b.status = .active → 0 < b.urgentNew ∨ 0 < b.urgentUnheard → derivedMode c b = c.urgentMode)
      ∧ (b.status = .active → b.urgentNew = 0 → b.urgentUnheard = 0 → 0 < b.new ∨ 0 < b.unheard →
          derivedMode c b = c.pendingMode)
      ∧ (b.status = .active → b.urgentNew = 0 → b.urgentUnheard = 0 → b.new = 0 → b.unheard = 0 → b.full = true →
          derivedMode c b = c.fullMode)
      ∧ (b.status = .active → b.urgentNew = 0 → b.urgentUnheard = 0 → b.new = 0 → b.unheard = 0 → b.full = false →
          derivedMode c b = .off))
  ∧ ∀ m : Nat,
    let locator := fun (l : Locator) => l.first % 16777216 + 16777216 * l.length
    let fits := fun (s : State) (v : Nat) =>
      v / 16777216 = 0 ∨ LocatorValid s.transit.regions (v % 16777216) (v / 16777216)
    FieldJudged (judgeClass m) m 1 1 (·.cls) (fun _ v => v ≤ 7) .cls (fun s v b => afresh s { b with cls := v })
    ∧ FieldJudged (judgeCapacity m) m 2 1 (·.capacity) (fun _ v => 1 ≤ v ∧ v ≤ 255) .capacity
        (fun s v b => afresh s { b with capacity := v })
    ∧ FieldJudged (judgeSchedule m) m 3 1 (·.schedule) (fun _ v => v = 255 ∨ v ≤ 63) .schedule
        (fun _ v b => { b with schedule := v })
    ∧ FieldJudged (judgeExtension m) m 8 4 (·.extension) (fun _ v => v ≤ 999999) .extension
        (fun _ v b => { b with extension := v })
    ∧ FieldJudged (judgeAbsenceUntil m) m 12 4 (fun b => b.absenceDay % 65536 + 65536 * b.absenceMinute)
        (fun _ v => v / 65536 = 65535 ∨ v / 65536 ≤ 1439) .absenceUntil
        (fun _ v b => { b with absenceDay := v % 65536, absenceMinute := v / 65536 })
    ∧ FieldJudged (judgePrimary m) m 16 4 (locator ·.primary) fits .primary
        (fun _ v b => { b with primary := ⟨v % 16777216, v / 16777216⟩ })
    ∧ FieldJudged (judgeAfterHours m) m 20 4 (locator ·.afterHours) fits .afterHours
        (fun _ v b => { b with afterHours := ⟨v % 16777216, v / 16777216⟩ })
    ∧ FieldJudged (judgeOnBreak m) m 24 4 (locator ·.onBreak) fits .onBreak
        (fun _ v b => { b with onBreak := ⟨v % 16777216, v / 16777216⟩ })
    ∧ FieldJudged (judgeAbsence m) m 28 4 (locator ·.absence) fits .absence
        (fun _ v b => { b with absence := ⟨v % 16777216, v / 16777216⟩ })

/-- A lamp field naming a position that another mailbox holds is withheld with LAMP_CLASH; one naming a free position
(or this box's own) moves the box there: the old position is given up, its lamp then showing no mailbox, and the new one
shows the box's derived mode. The absent encoding gives the position up, and its lamp then shows no mailbox; a value out
of range is withheld with FIELD_REFUSED. Every other position keeps its holder and what its lamp shows, the box keeps its
other fields, and nothing else of the part changes but what the Lamp Composer derives. -/
def Obligations.LampWriteTakesAFreePosition : Prop :=
  let others := fun (m : Nat) (kept : Nat → Prop) (s t : State) =>
    (∀ i, i ≠ m → boxAt t i = boxAt s i)
    ∧ (∀ q, kept q → holderAt t q = holderAt s q)
    ∧ (∀ e k, e < 192 → k < 48 → kept (e * 48 + k) → (shelfAt t e).mapped[k]? = (shelfAt s e).mapped[k]?)
    ∧ t = { s with boxes := t.boxes, lampMap := t.lampMap, lamps := t.lamps } ∧ OnlyImagesChange s t
  (∀ (m v p : Nat) (j : BoxWork), anyEnabled j.lanes 4 2 = true →
      mergedField j.lanes 4 2 (lampNat (boxAt j.state m)) = v → v ≠ lampNat (boxAt j.state m) →
      v % 256 ≤ 191 → v / 256 ≤ 47 → p = v % 256 * 48 + v / 256 →
      (∀ other, holderAt j.state p = some other → other ≠ m → judgeLamp m j =
        { j with lanes := withhold 4 2 j.lanes, causes := j.causes ++ [.lampClash other] })
      ∧ (holderAt j.state p = none ∨ holderAt j.state p = some m →
          let t := (judgeLamp m j).state
          (judgeLamp m j).lanes = j.lanes ∧ (judgeLamp m j).causes = j.causes
          ∧ boxAt t m = { boxAt j.state m with lampShelf := v % 256, lampNumber := v / 256 }
          ∧ lampPosition (boxAt t m) = some p ∧ holderAt t p = some m
          ∧ (∀ q, lampPosition (boxAt j.state m) = some q → q ≠ p → holderAt t q = none
              ∧ (q < 9216 → (shelfAt t (q / 48)).mapped[q % 48]? = some none))
          ∧ (shelfAt t (v % 256)).mapped[v / 256]? = some (some (boxAt j.state m).mode)
          ∧ others m (fun q => q ≠ p ∧ lampPosition (boxAt j.state m) ≠ some q) j.state t))
  ∧ ∀ (m v : Nat) (j : BoxWork), anyEnabled j.lanes 4 2 = true →
    mergedField j.lanes 4 2 (lampNat (boxAt j.state m)) = v → v ≠ lampNat (boxAt j.state m) →
    (v ≠ 65535 → 191 < v % 256 ∨ 47 < v / 256 → judgeLamp m j =
      { j with lanes := withhold 4 2 j.lanes, causes := j.causes ++ [.fieldRefused .lamp] })
    ∧ (v = 65535 →
        let t := (judgeLamp m j).state
        (judgeLamp m j).lanes = j.lanes ∧ (judgeLamp m j).causes = j.causes
        ∧ boxAt t m = { boxAt j.state m with lampShelf := 255, lampNumber := 255 } ∧ lampPosition (boxAt t m) = none
        ∧ (∀ q, lampPosition (boxAt j.state m) = some q → holderAt t q = none
            ∧ (q < 9216 → (shelfAt t (q / 48)).mapped[q % 48]? = some none))
        ∧ others m (fun q => lampPosition (boxAt j.state m) ≠ some q) j.state t)

/-- The acknowledge field: 0 and a broadcast that does not hold the box do nothing; 17 and more is refused; a LIVE
broadcast whose set holds the box loses it, and ends by all-heard when the box was its last member. The broadcast keeps
its other fields, every other broadcast and mailbox stays, and nothing else of the part changes but what the Lamp
Composer derives. -/
def Obligations.AcknowledgeLeavesThePendingSet : Prop :=
  ∀ (m v : Nat) (j : BoxWork),
    (v = 0 → judgeAcknowledge m v j = j)
    ∧ (16 < v → judgeAcknowledge m v j =
        { j with state := makeReport (.fieldRefused .acknowledge) (some m) none none none j.state,
                 causes := j.causes ++ [.fieldRefused .acknowledge] })
    ∧ (1 ≤ v → v ≤ 16 →
        ((broadcastAt j.state (v - 1)).live = false ∨ m ∉ (broadcastAt j.state (v - 1)).pending) →
        judgeAcknowledge m v j = j)
    ∧ (1 ≤ v → v ≤ 16 → (broadcastAt j.state (v - 1)).live = true → m ∈ (broadcastAt j.state (v - 1)).pending →
        let b := broadcastAt j.state (v - 1)
        let t := (judgeAcknowledge m v j).state
        (judgeAcknowledge m v j).lanes = j.lanes ∧ (judgeAcknowledge m v j).causes = j.causes
        ∧ broadcastAt t (v - 1) = { b with
            live := decide (b.pending.filter (· != m) ≠ []), pending := b.pending.filter (· != m) }
        ∧ (∀ n, n ≠ v - 1 → broadcastAt t n = broadcastAt j.state n)
        ∧ boxAt t m = afresh j.state { boxAt j.state m with
            unheard := (boxAt j.state m).unheard - 1
            urgentUnheard := (boxAt j.state m).urgentUnheard - (if b.urgent then 1 else 0) }
        ∧ (∀ i, i ≠ m → boxAt t i = boxAt j.state i)
        ∧ t = { j.state with
            boxes := t.boxes, broadcasts := t.broadcasts, lamps := t.lamps, reports := t.reports }
        ∧ OnlyImagesChange j.state t
        ∧ t.reports = if b.pending.filter (· != m) = []
            then (makeReport (.broadcastEnded v .allHeard 0) (some m) (some b.source) none none j.state).reports
            else j.state.reports)

/-! ### Deposits -/

/-- An AUDIO write taken at once that no held piece refuses: in a deposit's extent its samples are processed, its meter
taken and an OPEN context's deadline set afresh, the write forwarded as processed and answered DONE; outside every
extent it is forwarded as written. The deposit is the one whose extent holds the write's block. A sample whose two bytes
are enabled: offset, gain, truncation toward zero, clamp, then the meter; a sample with a byte not enabled passes and is
not metered; behind the last sample nothing is put out and the meter is as it was. -/
def Obligations.AudioWriteIsProcessedAndMetered : Prop :=
  (∀ (base : Nat) (w : HostWrite) (s : State), PortReady (.write w) s → FallsIn .audio base (.write w) s →
      latchInPlay s w.addr.toNat = none →
      (matchContext s (w.addr.toNat / 4096) = none →
        exec (.audioWrite w) s = .next (calm (joinOrder none (place
          [⟨.write, w.addr.toNat, w.words.toNat, writeLanes w, .host false []⟩] (accepted (.write w) s)))))
      ∧ ∀ k c, matchContext s (w.addr.toNat / 4096) = some k → contextAt s k = some c →
        exec (.audioWrite w) s = .next (calm (joinOrder none (place
          [⟨.write, w.addr.toNat, w.words.toNat,
            (processSamples (calibrationAt s c.source) (writeLanes w) c.level).1, .host false []⟩]
          (putContext k (some { c with
            level := (processSamples (calibrationAt s c.source) (writeLanes w) c.level).2
            state := match c.state with
              | .opened _ => .opened (s.now + 32768 * (classOf s c.owner).idle)
              | .lapsed => .lapsed
            idle := match c.state with
              | .opened _ => (classOf s c.owner).idle
              | .lapsed => c.idle }) (accepted (.write w) s))))))
  ∧ (∀ (s : State) (block k : Nat),
      let holds := fun c : Context => c.first ≤ block ∧ block < c.first + c.length
      (matchContext s block = some k ↔
        (∃ c, contextAt s k = some c ∧ holds c) ∧ ∀ i c, i < k → contextAt s i = some c → ¬ holds c)
      ∧ (matchContext s block = none ↔ ∀ i c, contextAt s i = some c → ¬ holds c))
  ∧ (∀ (cal : Calibration) (v : Level), processSamples cal [] v = ([], v) ∧ ∀ a, processSamples cal [a] v = ([a], v))
  ∧ (∀ (cal : Calibration) (a b : Lane) (rest : List Lane) (v : Level) (raw x y : Int) (size : Nat),
      raw = (b.data ++ a.data : BitVec 16).toInt → x = Int.tdiv ((raw + cal.offset) * cal.gain) 256 →
      y = max (-32768) (min 32767 x) → size = min 32767 y.natAbs →
      (a.enabled = true → b.enabled = true → ∀ out w,
        processSamples cal rest
          ⟨max v.peak size, min 65535 (v.voiced + if cal.threshold ≤ size then 1 else 0),
            min 65535 (v.clipped + if y ≠ x then 1 else 0)⟩ = (out, w) →
        ∃ low high : Byte, (high ++ low : BitVec 16).toInt = y
          ∧ processSamples cal (a :: b :: rest) v = (⟨true, low⟩ :: ⟨true, high⟩ :: out, w))
      ∧ (a.enabled = false ∨ b.enabled = false → ∀ out w, processSamples cal rest v = (out, w) →
        processSamples cal (a :: b :: rest) v = (a :: b :: out, w)))

/-! ### Greetings, AUDIO and GREETING protection -/

/-- The choice before its fallback: SYSTEM for a box that is not ACTIVE, PRIMARY while the calendar is unset, ABSENCE
before absence-until, BREAK for a class that follows breaks inside the Break List, PRIMARY without a schedule or
inside it, AFTER_HOURS outside it. The fallback chain of a greeting choice: the first choice from the given one on
whose locator is present; NONE when no choice has one. The greeting selected for a mailbox is that choice carried down its
chain. -/
def Obligations.GreetingChoiceAndItsFallback : Prop :=
  (∀ (s : State) (b : MailboxRec) (t : Nat), t = (s.calendar.day + s.control.header.weekday) % 7 * 1440 + s.calendar.minute →
      let away := b.absence.length ≠ 0 ∧ b.absenceMinute ≠ 65535
        ∧ (s.calendar.day < b.absenceDay ∨ (s.calendar.day = b.absenceDay ∧ s.calendar.minute < b.absenceMinute))
      let break_ := (classAt s b.cls).followsBreaks = true
        ∧ ∃ r ∈ s.greetings.breaks, r.first ≤ s.calendar.day ∧ s.calendar.day ≤ r.last
      let inside := ∃ w ∈ scheduleAt s b.schedule, w.on ≤ t ∧ t < w.off
      (b.status ≠ .active → firstChoice s b = .system)
      ∧ (b.status = .active → s.calendar.isSet = false → firstChoice s b = .primary)
      ∧ (b.status = .active → s.calendar.isSet = true → away → firstChoice s b = .absence)
      ∧ (b.status = .active → s.calendar.isSet = true → ¬ away → break_ → firstChoice s b = .onBreak)
      ∧ (b.status = .active → s.calendar.isSet = true → ¬ away → ¬ break_ → b.schedule = 255 ∨ inside →
          firstChoice s b = .primary)
      ∧ (b.status = .active → s.calendar.isSet = true → ¬ away → ¬ break_ → b.schedule ≠ 255 → ¬ inside →
          firstChoice s b = .afterHours))
  ∧ (∀ (c : ClassEntry) (b : MailboxRec),
      (∀ g, g ≠ .none → (choiceLocator c b g).length ≠ 0 → carryDown c b 4 g = g)
      ∧ (b.absence.length = 0 → carryDown c b 4 .absence = carryDown c b 4 .primary)
      ∧ (b.onBreak.length = 0 → carryDown c b 4 .onBreak = carryDown c b 4 .afterHours)
      ∧ (b.afterHours.length = 0 → carryDown c b 4 .afterHours = carryDown c b 4 .primary)
      ∧ (b.primary.length = 0 → carryDown c b 4 .primary = carryDown c b 4 .system)
      ∧ (c.system.length = 0 → carryDown c b 4 .system = .none)
      ∧ choiceLocator c b .primary = b.primary ∧ choiceLocator c b .afterHours = b.afterHours
      ∧ choiceLocator c b .onBreak = b.onBreak ∧ choiceLocator c b .absence = b.absence
      ∧ choiceLocator c b .system = c.system)
  ∧ ∀ (s : State) (m : Nat), classOf s m = classAt s (boxAt s m).cls
      ∧ selectGreeting s m = carryDown (classAt s (boxAt s m).cls) (boxAt s m) 4 (firstChoice s (boxAt s m))

/-- A read at position 0 of a lane taken at once starts a play: the window is composed from the greeting selected, the
lane's latch is renewed, or released when the window is empty, or the lowest-numbered FREE latch is taken, or, with none
FREE, the first such play of an empty spell is reported; then the read is served from the window. A window is the
preamble, the greeting and the trailer, each where it is present, one behind the other and cut at 128 blocks; a lane's
latch is the one that names its mailbox and lane. -/
def Obligations.PositionZeroReadStartsAPlay : Prop :=
  (∀ (base m lane : Nat) (r : HostRead) (s : State), PortReady (.read r) s →
      FallsIn .aliasWindow base (.read r) s → (r.addr.toNat - base) % 524288 = 0 →
      m = (r.addr.toNat - base) / 1048576 → lane = (r.addr.toNat - base) / 524288 % 2 →
      let g := selectGreeting s m
      let w := composeWindow s m g
      let latch : Latch := ⟨m, lane, g, w.pieces, w.composed, s.now + 32768 * s.control.header.latchIdle⟩
      ∀ u, u = accepted (.read r) s →
      (∀ k, laneLatch s m lane = some k → 0 < w.composed → exec (.aliasReadPositionZero r) s =
        .next (calm (serveWindow w.pieces 0 r.words.toNat (putLatch k (some latch) u))))
      ∧ (∀ k, laneLatch s m lane = some k → w.composed = 0 → exec (.aliasReadPositionZero r) s =
        .next (calm (serveWindow w.pieces 0 r.words.toNat (releaseLatch k u))))
      ∧ (laneLatch s m lane = none → w.composed = 0 → exec (.aliasReadPositionZero r) s =
        .next (calm (serveWindow w.pieces 0 r.words.toNat u)))
      ∧ (∀ k, laneLatch s m lane = none → 0 < w.composed → k < 48 → latchAt s k = none →
        (∀ i, i < k → latchAt s i ≠ none) → exec (.aliasReadPositionZero r) s =
        .next (calm (serveWindow w.pieces 0 r.words.toNat (putLatch k (some latch) u))))
      ∧ (laneLatch s m lane = none → 0 < w.composed → (∀ i, i < 48 → latchAt s i ≠ none) →
        exec (.aliasReadPositionZero r) s = .next (calm (serveWindow w.pieces 0 r.words.toNat
          (if s.greetings.emptySpell then u
           else makeReport (.latchPoolEmpty lane) (some m) none none none
            { u with greetings := { u.greetings with emptySpell := true } })))))
  ∧ (∀ (s : State) (m : Nat) (g : Greeting),
      let c := classOf s m
      let l := choiceLocator c (boxAt s m) g
      let first := min 128 c.preamble.length
      let second := min (128 - first) l.length
      let third := min (128 - first - second) c.trailer.length
      composeWindow s m g = ⟨(if first = 0 then [] else [⟨.preamble, c.preamble.first, first, 0⟩])
          ++ (if second = 0 then [] else [⟨.greeting, l.first, second, first⟩])
          ++ (if third = 0 then [] else [⟨.trailer, c.trailer.first, third, first + second⟩]),
        first + second + third⟩)
  ∧ ∀ (s : State) (m lane k : Nat),
      let names := fun l : Latch => l.mailbox = m ∧ l.lane = lane
      (laneLatch s m lane = some k ↔
        (∃ l, latchAt s k = some l ∧ names l) ∧ ∀ i l, i < k → latchAt s i = some l → ¬ names l)
      ∧ (laneLatch s m lane = none ↔ ∀ i l, latchAt s i = some l → ¬ names l)

/-- A read at another position taken at once is served from its lane's latch, whose deadline moves, or which is
released by a read of the window's last line; with no latch it is served from a window composed afresh. A read served
from a window: inside the piece that holds its block it is forwarded to the piece's physical address, past the window it
is answered with zero words and nothing is forwarded. -/
def Obligations.LaterReadIsServedFromTheLatchOrAfresh : Prop :=
  (∀ (base m lane position : Nat) (r : HostRead) (s : State), PortReady (.read r) s →
      FallsIn .aliasWindow base (.read r) s → position = (r.addr.toNat - base) % 524288 → position ≠ 0 →
      m = (r.addr.toNat - base) / 1048576 → lane = (r.addr.toNat - base) / 524288 % 2 →
      ∀ u, u = accepted (.read r) s →
      (laneLatch s m lane = none → exec (.aliasRead r) s = .next (calm
        (serveWindow (composeWindow s m (selectGreeting s m)).pieces position r.words.toNat u)))
      ∧ (∀ k l, laneLatch s m lane = some k → latchAt s k = some l →
          (4096 * l.composed ≤ position + 128 ∧ position < 4096 * l.composed → exec (.aliasRead r) s =
            .next (calm (releaseLatch k (serveWindow l.pieces position r.words.toNat u))))
          ∧ (¬ (4096 * l.composed ≤ position + 128 ∧ position < 4096 * l.composed) → exec (.aliasRead r) s =
            .next (calm (putLatch k (some { l with deadline := s.now + 32768 * s.control.header.latchIdle })
              (serveWindow l.pieces position r.words.toNat u))))))
  ∧ (∀ (pieces : List Piece) (position words : Nat) (s : State),
      (∀ p, pieceAt pieces (position / 4096) = some p →
        serveWindow pieces position words s = joinOrder none (place
          [⟨.read, 4096 * (p.first + (position / 4096 - p.start)) + position % 4096, words, [], .translated⟩] s))
      ∧ (pieceAt pieces (position / 4096) = none →
        serveWindow pieces position words s = joinOrder (some ⟨.done, List.replicate (8 * words) 0⟩) s))
  ∧ (∀ (pieces : List Piece) (block : Nat),
      let holds := fun p : Piece => p.start ≤ block ∧ block < p.start + p.length
      (∀ p, pieceAt pieces block = some p → p ∈ pieces ∧ holds p)
      ∧ (∀ p ∈ pieces, holds p → (∀ q ∈ pieces, holds q → q = p) → pieceAt pieces block = some p)
      ∧ (pieceAt pieces block = none ↔ ∀ p ∈ pieces, ¬ holds p))

/-- A GREETING write taken at once is forwarded as written when no held piece has its block; an AUDIO or GREETING
write into a block of a held piece is refused, nothing is forwarded, and GREETING_IN_PLAY names the mailbox and lane of
the lowest-numbered latch that holds the block. A write into the ALIAS or REPORT region taken at once is refused and
reported, and nothing is forwarded. -/
def Obligations.RefusedRegionsAndHeldPiecesRefuseWrites : Prop :=
  (∀ (base : Nat) (w : HostWrite) (s : State), PortReady (.write w) s →
      (FallsIn .greeting base (.write w) s → latchInPlay s w.addr.toNat = none →
        exec (.greetingWrite w) s = .next (calm (joinOrder none (place
          [⟨.write, w.addr.toNat, w.words.toNat, writeLanes w, .host false []⟩] (accepted (.write w) s)))))
      ∧ ∀ l, latchInPlay s w.addr.toNat = some l → ∀ c,
        (c = .greetingWrite w ∧ FallsIn .greeting base (.write w) s)
          ∨ (c = .audioWrite w ∧ FallsIn .audio base (.write w) s) →
        exec c s = .next (calm (makeReport (.greetingInPlay w.addr.toNat l.lane) (some l.mailbox) none none none
          (joinOrder (some ⟨.refused, []⟩) (accepted (.write w) s)))))
  ∧ (∀ (base : Nat) (w : HostWrite) (s : State), PortReady (.write w) s →
      (FallsIn .aliasWindow base (.write w) s → exec (.aliasWrite w) s = .next (calm
        (makeReport (.aliasWrite w.addr.toNat) none none none none
          (joinOrder (some ⟨.refused, []⟩) (accepted (.write w) s)))))
      ∧ (FallsIn .report base (.write w) s → exec (.reportRegionWrite w) s = .next (calm
        (makeReport (.configRefused w.addr.toNat .reportRegion .reportRegion) none none none none
          (joinOrder (some ⟨.refused, []⟩) (accepted (.write w) s))))))
  ∧ (∀ (s : State) (addr : Nat) (l : Latch),
      let holds := fun l : Latch => ∃ p ∈ l.pieces, p.first ≤ addr / 4096 ∧ addr / 4096 < p.first + p.length
      (latchInPlay s addr = some l ↔
        ∃ k, latchAt s k = some l ∧ holds l ∧ ∀ i h, i < k → latchAt s i = some h → ¬ holds h)
      ∧ (latchInPlay s addr = none ↔ ∀ i h, latchAt s i = some h → ¬ holds h))

/-! ### Transactions that reach no unit -/

/-- A transaction forwarded unchanged: well formed, and the part under RESET, or outside the Control Area in FAILED, or
outside the Control Area and every used region while RUNNING; a READ of an AUDIO, GREETING or REPORT region while
RUNNING; a WRITE into the Control Area in FAILED that carries no RESTART, whatever record or command it writes. The
Control Area lies at the strap level times 4 GiB, and a used region is one of the shadow's that holds the address. A byte
for which the host presents no lane is not enabled (log 33). Entries
placed join the end of the queue together, and a response joins the end of the response order. -/
def Obligations.PlainTransactionIsForwarded : Prop :=
  (∀ (t : HostTxn) (s : State), PortReady t s → formFault (txnAddr t) (txnWords t) = none →
      (s.part = .reset ∨ (s.part = .failed ∧ areaOffset s (txnAddr t) = none)
        ∨ (s.part = .running ∧ areaOffset s (txnAddr t) = none ∧ regionOf s (txnAddr t) = none)) →
      exec (.plainTransaction t) s = .next (calm (joinOrder none (place
        [match t with
          | .read r => ⟨.read, r.addr.toNat, r.words.toNat, [], .host false []⟩
          | .write w => ⟨.write, w.addr.toNat, w.words.toNat, writeLanes w, .host false []⟩]
        (accepted t s)))))
  ∧ (∀ (kind : RegionKind) (base : Nat) (r : HostRead) (s : State), PortReady (.read r) s →
      FallsIn kind base (.read r) s → (kind = .audio ∨ kind = .greeting ∨ kind = .report) →
      exec (.plainTransaction (.read r)) s = .next (calm (joinOrder none (place
        [⟨.read, r.addr.toNat, r.words.toNat, [], .host false []⟩] (accepted (.read r) s)))))
  ∧ (∀ (offset : Nat) (w : HostWrite) (s : State), PortReady (.write w) s → s.part = .failed →
      formFault (txnAddr (.write w)) (txnWords (.write w)) = none → areaOffset s (txnAddr (.write w)) = some offset →
      (∀ c, writtenCommand (lineLanes w) (touchedRecords offset w.words.toNat) = some c → c.code ≠ 1) →
      ∀ c ∈ [Instr.plainTransaction (.write w), .controlAreaWrite w, .classEntryWrite w, .calibrationWrite w,
        .breakListWrite w, .scheduleWrite w, .broadcastEntryWrite w, .shelfEntryWrite w, .reportConsumerWrite w,
        .errorLatchClear w, .sweepNow w, .clockSet w, .broadcastPost w, .broadcastWithdraw w, .lampRefresh w,
        .badCommand w],
      exec c s = .next (calm (joinOrder none (place
        [⟨.write, w.addr.toNat, w.words.toNat, writeLanes w, .host false []⟩] (accepted (.write w) s)))))
  ∧ (∀ (addr : Nat) (s : State) (g : Region) (kind : RegionKind),
      controlBase s = 4294967296 * s.transit.ctlSel.toNat
      ∧ areaOffset s addr = (if controlBase s ≤ addr ∧ addr < controlBase s + 65536 then some (addr - controlBase s)
          else none)
      ∧ (regionOf s addr = some g → g ∈ s.transit.regions ∧ g.base ≤ addr ∧ addr < g.base + g.size)
      ∧ (regionOf s addr = none ↔ ∀ h ∈ s.transit.regions, ¬ (h.base ≤ addr ∧ addr < h.base + h.size))
      ∧ (g ∈ s.transit.regions → g.kind = kind → (∀ h ∈ s.transit.regions, h.kind = kind → h = g) →
        regionBase s kind = g.base))
  ∧ ∀ (r : HostRead) (w : HostWrite) (s : State) (entries : List Entry) (response : Option Response),
      txnAddr (.read r) = r.addr.toNat ∧ txnWords (.read r) = r.words.toNat
      ∧ txnAddr (.write w) = w.addr.toNat ∧ txnWords (.write w) = w.words.toNat
      ∧ (writeLanes w).length = 8 * w.words.toNat
      ∧ (∀ k, k < 8 * w.words.toNat → (writeLanes w)[k]? = some ((w.lanes[k]?).getD ⟨false, 0⟩))
      ∧ place entries s = { s with transit := { s.transit with
          queue := s.transit.queue ++ entries, joined := s.transit.joined + entries.length } }
      ∧ joinOrder response s = { s with transit := { s.transit with order := s.transit.order ++ [response] } }

/-- A transaction that fails a condition of its form is refused without room and without being forwarded, a READ with
zero data, and reported with the first failed condition while RUNNING alone. -/
def Obligations.MisformedTransactionIsRefused : Prop :=
  (∀ addr words, formFault addr words =
    if addr % 8 ≠ 0 then some .align else if words < 1 ∨ 16 < words then some .length
    else if 128 < addr % 128 + words * 8 then some .line else none)
  ∧ ∀ (t : HostTxn) (f : FormFault) (s : State), formFault (txnAddr t) (txnWords t) = some f →
    roomAsked s t = none
    ∧ (PortReady t s →
        let u := joinOrder (some ⟨.refused, match t with
          | .read r => List.replicate (8 * r.words.toNat) 0
          | .write _ => []⟩) (accepted t s)
        exec (.linkMisformed t) s = .next (calm (if s.part = .running
          then makeReport (.linkMisformed (txnAddr t) (match t with | .read _ => .read | .write _ => .write)
            (txnWords t) f) none none none none u
          else u)))

/-! ### The Control Area -/

/-- A Control Area write taken at once whose touched records all pass, with no command: it is forwarded, its status
bytes withheld, a zero over the whole latch code empties the error latch, and its records take effect in ascending
address. A Control Area write with a record that fails is refused whole: nothing is forwarded or changed, and each
failed record yields one CONFIG_REFUSED, in ascending address. The status record's 64 bytes are withheld where the write's
line holds them. -/
def Obligations.AreaWriteIsAcceptedOrRefusedWhole : Prop :=
  (∀ (offset : Nat) (w : HostWrite) (s : State), PortReady (.write w) s → FallsInArea offset (.write w) s →
      failedRecords s (lineLanes w) (touchedRecords offset w.words.toNat) = [] →
      writtenCommand (lineLanes w) (touchedRecords offset w.words.toNat) = none →
      ∀ c ∈ [Instr.controlAreaWrite w, .classEntryWrite w, .calibrationWrite w, .breakListWrite w, .scheduleWrite w,
        .broadcastEntryWrite w, .shelfEntryWrite w, .reportConsumerWrite w, .errorLatchClear w],
      let u := areaForwarded offset w (accepted (.write w) s)
      exec c s = .next (calm (takeRecords (lineLanes w) (touchedRecords offset w.words.toNat)
        (if clearsLatch offset (lineLanes w) then { u with reports := { u.reports with latch := none } } else u))))
  ∧ (∀ (offset : Nat) (w : HostWrite) (s : State), PortReady (.write w) s → FallsInArea offset (.write w) s →
      failedRecords s (lineLanes w) (touchedRecords offset w.words.toNat) ≠ [] →
      ∀ c ∈ [Instr.controlAreaWrite w, .classEntryWrite w, .calibrationWrite w, .breakListWrite w, .scheduleWrite w,
        .broadcastEntryWrite w, .shelfEntryWrite w, .reportConsumerWrite w, .errorLatchClear w],
      exec c s = .next (calm (joinOrder (some ⟨.refused, []⟩)
        (reportRefusals (controlBase s) (failedRecords s (lineLanes w) (touchedRecords offset w.words.toNat))
          (accepted (.write w) s)))))
  ∧ (∀ (offset : Nat) (line : List Lane), clearsLatch offset line = true ↔
      offset / 128 = 2 ∧ (∀ l ∈ (line.drop 16).take 2, l.enabled = true) ∧ fieldOf (laneData line) 16 2 = 0)
  ∧ (∀ (offset : Nat) (line : List Lane),
      withholdStatus offset line = if offset / 128 = 2 then withhold 0 64 line else line)
  ∧ (∀ (s : State) (line : List Lane) (records : List AreaRecord) (a : AreaRecord),
      failedRecords s line [] = []
      ∧ failedRecords s line (a :: records) = (match judgeRecord s line a with
        | some check => (a, check) :: failedRecords s line records
        | none => failedRecords s line records))
  ∧ (∀ (s : State) (line : List Lane) (a : AreaRecord) (records : List AreaRecord) (area : Nat) (check : CheckName)
      (rest : List (AreaRecord × CheckName)),
      takeRecords line [] s = s
      ∧ takeRecords line (a :: records) s = takeRecords line records (takeRecord (laneData (areaLanes line a)) a s)
      ∧ reportRefusals area [] s = s
      ∧ reportRefusals area ((a, check) :: rest) s = reportRefusals area rest
          (makeReport (.configRefused (area + recordOffset a) (recordKind a) check) none none
            (match a with | .shelf i => some i | _ => none) none s))

/-- Which records a Control Area write touches, in ascending address, and how each is judged: a record not covered with
every byte enabled fails with PARTIAL_ENTRY; one covered whole fails with the first of its own checks that it does not
pass, in the order of its table. -/
def Obligations.RecordsAreJudged : Prop :=
  (∀ (offset words : Nat), offset < 65536 →
      let lies := fun a : AreaRecord => match a with
        | .command => some (0x80, 16)
        | .consumer => some (0xc0, 8)
        | .cls i => if i < 8 then some (0x400 + i * 0x40, 64) else none
        | .calibration i => if i < 4 then some (0x600 + i * 0x10, 16) else none
        | .breakList => some (0x700, 128)
        | .schedule i => if i < 64 then some (0x800 + i * 0x20, 32) else none
        | .broadcast i => if i < 16 then some (0x1000 + i * 0x20, 32) else none
        | .shelf i => if i < 192 then some (0x2000 + i * 0x20, 32) else none
      (∀ a, a ∈ touchedRecords offset words ↔ ∃ first size : Nat, lies a = some (first, size)
        ∧ first / 128 = offset / 128 ∧ first < offset + 8 * words ∧ offset < first + size)
      ∧ (touchedRecords offset words).Pairwise (fun a b => recordOffset a < recordOffset b)
      ∧ ∀ a first size, lies a = some (first, size) → recordOffset a = first
          ∧ ∀ line, areaLanes line a = (line.drop (first % 128)).take size)
  ∧ (∀ (regions : List Region) (l : Locator),
      locatorGood regions l = true ↔ l.length = 0 ∨ LocatorValid regions l.first l.length)
  ∧ (∀ (s : State) (line : List Lane) (a : AreaRecord),
      ((∃ l ∈ areaLanes line a, l.enabled = false) → judgeRecord s line a = some .partialEntry)
      ∧ ((∀ l ∈ areaLanes line a, l.enabled = true) →
          judgeRecord s line a = checkRecord s a (laneData (areaLanes line a))))
  ∧ (∀ (s : State) (b : List Byte) (i : Nat),
      checkRecord s (.cls i) b = checkClass s.transit.regions b ∧ checkRecord s (.calibration i) b = checkCalibration b
      ∧ checkRecord s .breakList b = checkBreaks b ∧ checkRecord s (.schedule i) b = checkSchedule b
      ∧ ((broadcastAt s i).live = false → checkRecord s (.broadcast i) b = checkBroadcast b)
      ∧ checkRecord s (.shelf i) b = checkShelf b)
  ∧ ∀ (s : State) (b : List Byte) (i : Nat),
      checkRecord s .command b = none
      ∧ checkRecord s .consumer b = (if fieldOf b 0 2 ≤ 255
          ∧ (fieldOf b 0 2 + (256 - s.reports.consumer % 256)) % 256
            ≤ (s.reports.producer + (256 - s.reports.consumer % 256)) % 256 then none else some .consumer)
      ∧ checkRecord s (.cls i) b = (
          if 3650 < fieldOf b 0 2 ∨ 3650 < fieldOf b 2 2 ∨ 3650 < fieldOf b 4 2 then some .retention
          else if fieldOf b 6 2 < 1 ∨ 4095 < fieldOf b 6 2 then some .depositLength
          else if byteOf b 8 < 5 then some .idleTime
          else if 3 < byteOf b 10 ∨ 3 < byteOf b 11 ∨ 3 < byteOf b 12 then some .lampPolicy
          else if 1 < byteOf b 9 then some .flag
          else if (locatorGood s.transit.regions (locatorAt b 20) && locatorGood s.transit.regions (locatorAt b 24)
            && locatorGood s.transit.regions (locatorAt b 28)) = false then some .locator
          else none)
      ∧ checkRecord s (.calibration i) b = (
          if (BitVec.ofNat 16 (fieldOf b 0 2)).toInt < -2048 ∨ 2047 < (BitVec.ofNat 16 (fieldOf b 0 2)).toInt then
            some .offset
          else if 1023 < fieldOf b 2 2 then some .gain
          else if 32767 < fieldOf b 4 2 then some .threshold
          else none)
      ∧ checkRecord s .breakList b = (List.range 16).findSome? (fun k =>
          let first := fieldOf b (8 * k) 2
          let last := fieldOf b (8 * k + 2) 2
          if byteOf b (8 * k + 4) = 0 then none
          else if last < first then some .rangeOrder
          else if 0 < k ∧ byteOf b (8 * (k - 1) + 4) = 0 then some .rangeGap
          else if 0 < k ∧ first ≤ fieldOf b (8 * (k - 1) + 2) 2 then some .rangeSequence
          else none)
      ∧ checkRecord s (.schedule i) b = (List.range 4).findSome? (fun k =>
          let on := fieldOf b (8 * k) 2
          let off := fieldOf b (8 * k + 2) 2
          if byteOf b (8 * k + 4) = 0 then none
          else if 10079 < on ∨ off < 1 ∨ 10080 < off then some .windowRange
          else if off ≤ on then some .windowOrder
          else if 0 < k ∧ byteOf b (8 * (k - 1) + 4) = 0 then some .windowGap
          else if 0 < k ∧ on ≤ fieldOf b (8 * (k - 1) + 2) 2 then some .windowSequence
          else none)
      ∧ checkRecord s (.broadcast i) b = (
          if (broadcastAt s i).live = true then some .broadcastLive
          else if 1 < byteOf b 3 then some .urgent
          else if 1 < byteOf b 6 then some .endDay
          else none)
      ∧ checkRecord s (.shelf i) b = (
          if 1 < byteOf b 0 ∨ 1 < byteOf b 1 ∨ 1 < byteOf b 2 ∨ 1 < byteOf b 3 then some .shelfFlag else none)

/-- What each valid table record puts into its shadow, and that it leaves the rest of the part: a calibration source, the
Break List, a schedule, a broadcast entry (IDLE with an empty set), the consumer index (which clears the dropped flag when
it leaves no record unread, also when none was unread before, log 42). A valid class entry replaces its class and changes
no other, and every mailbox of the class has the lamp mode that the new policy gives; mailboxes of other classes stay as
they were, and nothing else changes but what the Lamp Composer derives. Each field is read from its bytes: of a class, a calibration source and a broadcast, and the used ranges and windows in order (a code
that is none of its field's is refused before it is used, whatever it reads as). -/
def Obligations.TableRecordsTakeEffect : Prop :=
  (∀ (b : List Byte) (s : State),
      (∀ i, i < 4 → calibrationAt (takeRecord b (.calibration i) s) i
            = ⟨(BitVec.ofNat 16 (fieldOf b 0 2)).toInt, fieldOf b 2 2, fieldOf b 4 2⟩
          ∧ (∀ k, k ≠ i → calibrationAt (takeRecord b (.calibration i) s) k = calibrationAt s k))
      ∧ (∀ i t, t = takeRecord b (.calibration i) s →
          t = { s with deposit := { s.deposit with calibration := t.deposit.calibration } })
      ∧ takeRecord b .breakList s = { s with greetings := { s.greetings with breaks := readBreaks b } }
      ∧ (∀ i, i < 64 → scheduleAt (takeRecord b (.schedule i) s) i = readSchedule b
          ∧ ∀ k, k ≠ i → scheduleAt (takeRecord b (.schedule i) s) k = scheduleAt s k)
      ∧ (∀ i t, t = takeRecord b (.schedule i) s →
          t = { s with greetings := { s.greetings with schedules := t.greetings.schedules } })
      ∧ (∀ i, i < 16 → broadcastAt (takeRecord b (.broadcast i) s) i
            = ⟨true, false, fieldOf b 0 2, BitVec.ofNat 8 (byteOf b 2), byteOf b 3 == 1,
                if byteOf b 6 = 0 then none else some (fieldOf b 4 2), []⟩
          ∧ ∀ k, k ≠ i → broadcastAt (takeRecord b (.broadcast i) s) k = broadcastAt s k)
      ∧ (∀ i t, t = takeRecord b (.broadcast i) s → t = { s with broadcasts := t.broadcasts })
      ∧ ∀ t, t = takeRecord b .consumer s →
          t = { s with reports := { s.reports with consumer := fieldOf b 0 2, dropped := t.reports.dropped } }
          ∧ (t.reports.dropped = true ↔ s.reports.dropped = true ∧ unread t.reports ≠ 0))
  ∧ (∀ (b : List Byte) (i : Nat) (s : State), i < 8 → DirectoriesCanonical s →
      let t := takeRecord b (.cls i) s
      classAt t i = readClass b ∧ (∀ k, k ≠ i → classAt t k = classAt s k)
      ∧ (∀ m, (boxAt s m).cls ≠ i → boxAt t m = boxAt s m)
      ∧ (∀ m, (boxAt s m).cls = i →
          boxAt t m = { boxAt s m with
            full := decide ((boxAt s m).capacity ≤ (boxAt s m).nonFree)
            mode := derivedMode (readClass b)
              { boxAt s m with full := decide ((boxAt s m).capacity ≤ (boxAt s m).nonFree) } })
      ∧ t = { s with
          control := { s.control with classes := t.control.classes }, boxes := t.boxes, lamps := t.lamps }
      ∧ OnlyImagesChange s t)
  ∧ ∀ b : List Byte,
      let mode := fun n : Nat => if n = 1 then LampMode.steady else if n = 2 then .slow else if n = 3 then .fast else .off
      let used := fun k : Nat => byteOf b (8 * k + 4) ≠ 0
      readClass b = {
          retainNew := fieldOf b 0 2, retainHeard := fieldOf b 2 2, retainSaved := fieldOf b 4 2
          maxDeposit := fieldOf b 6 2, idle := byteOf b 8, followsBreaks := byteOf b 9 == 1
          urgentMode := mode (byteOf b 10), pendingMode := mode (byteOf b 11), fullMode := mode (byteOf b 12)
          minVoiced := fieldOf b 16 2, system := ⟨fieldOf b 20 3, byteOf b 23⟩
          preamble := ⟨fieldOf b 24 3, byteOf b 27⟩, trailer := ⟨fieldOf b 28 3, byteOf b 31⟩ }
      ∧ readCalibration b = ⟨(BitVec.ofNat 16 (fieldOf b 0 2)).toInt, fieldOf b 2 2, fieldOf b 4 2⟩
      ∧ readBroadcast b = ⟨true, false, fieldOf b 0 2, BitVec.ofNat 8 (byteOf b 2), byteOf b 3 == 1,
          if byteOf b 6 = 0 then none else some (fieldOf b 4 2), []⟩
      ∧ readBreaks b = (((List.range 16).filter used).map fun k => ⟨fieldOf b (8 * k) 2, fieldOf b (8 * k + 2) 2⟩)
      ∧ readSchedule b = (((List.range 4).filter used).map fun k => ⟨fieldOf b (8 * k) 2, fieldOf b (8 * k + 2) 2⟩)

/-- A valid shelf entry: its host fields enter, its image is composed afresh, its link record starts anew (PROBING and
due at once when configured, UNCONFIGURED otherwise), its last-sent image is unknown, and an exchange in flight with it
is orphaned; no other entry changes, and nothing of the part outside the lamps' half. Entries 0 to 95 are link A's and 96 to 191 link B's; an exchange in flight is with the
shelf whose address on its link it holds. The host fields are read from their bytes, masks a bit and modes two bits a
lamp. -/
def Obligations.ShelfEntryStartsAfresh : Prop :=
  ∀ (b : List Byte) (e : Nat) (s : State), e < 192 →
    let h := readShelf b
    let t := takeRecord b (.shelf e) s
    let flying := isInFlight s e
    (∃ image : Image, shelfAt t e = { shelfAt s e with
        configured := h.configured, watchFault := h.watchFault, haltOnMatch := h.haltOnMatch,
        haltOnCheck := h.haltOnCheck, watchMask := h.watchMask, sourceSelect := h.sourceSelect,
        override := h.override, composed := image, lastSent := none,
        invalidated := flying || (shelfAt s e).invalidated,
        link := if h.configured then .probing else .unconfigured,
        probeAt := if h.configured then some s.now else none,
        misses := 0, watchMatch := false, sequence := 0, powerLow := false }
      ∧ ∀ k : Fin 48, image[k] =
          if s.prun = false ∧ s.control.header.dark = true then .off
          else if h.sourceSelect.getLsbD k.val then h.override[k] else ((shelfAt s e).mapped[k]).getD .off)
    ∧ (∀ i, i ≠ e → shelfAt t i = shelfAt s i)
    ∧ (∀ k, (linkState t.lamps k).cursor = (linkState s.lamps k).cursor
        ∧ (linkState t.lamps k).cadenceDue = (linkState s.lamps k).cadenceDue
        ∧ (linkState t.lamps k).activity =
          if flying = true ∧ k = linkOf e then
            (match (linkState s.lamps k).activity with
              | .exchange x => .exchange { x with orphaned := true }
              | a => a)
          else (linkState s.lamps k).activity)
    ∧ t = { s with lamps := t.lamps } ∧ t.lamps.phase = s.lamps.phase ∧ t.lamps.cycles = s.lamps.cycles
    ∧ linkOf e = (if e < 96 then .a else .b) ∧ entryOf .a e = e ∧ entryOf .b e = 96 + e
    ∧ (flying = true ↔ ∃ x, (linkState s.lamps (linkOf e)).activity = .exchange x ∧ x.addr = e % 96)
    ∧ h = { Shelf.empty with
        configured := byteOf b 0 == 1, watchFault := byteOf b 1 == 1, haltOnMatch := byteOf b 2 == 1
        haltOnCheck := byteOf b 3 == 1, watchMask := h.watchMask, sourceSelect := h.sourceSelect, override := h.override }
    ∧ ∀ k : Fin 48,
        h.watchMask.getLsbD k.val = (byteOf b (4 + k.val / 8)).testBit (k.val % 8)
        ∧ h.sourceSelect.getLsbD k.val = (byteOf b (10 + k.val / 8)).testBit (k.val % 8)
        ∧ modeCode h.override[k] = byteOf b (16 + k.val / 4) / 4 ^ (k.val % 4) % 4

/-- A Control Area read taken at once, while RUNNING or in FAILED, is forwarded, and the status record's 64 bytes are
overlaid where it covers them: part state, dropped flag, producer index, calendar, sweep, error latch with its mailbox,
slot, shelf and detail, and set-aside counts as they stand. Of an empty latch the code is 0000h, and mailbox, slot present
and shelf show none (log 32); its slot and detail bytes are free values (log 11), of which nothing is said. -/
def Obligations.AreaReadShowsTheStatusRecord : Prop :=
  (∀ (offset : Nat) (r : HostRead) (s : State), PortReady (.read r) s →
    FallsInArea offset (.read r) s ∨ (s.part = .failed ∧ txnFault (.read r) = none
      ∧ areaOffset s (txnAddr (.read r)) = some offset) →
    exec (.controlAreaRead r) s = .next (calm (joinOrder none (place
      [⟨.read, r.addr.toNat, r.words.toNat, [], .host false (overlayPart r
        (if offset / 128 = 2 then (statusBytes s.transit.joined (accepted (.read r) s)).map some ++ List.replicate 64 none
         else List.replicate 128 none))⟩] (accepted (.read r) s)))))
  ∧ (∀ (r : HostRead) (line : List (Option Byte)) (k : Nat), (overlayPart r line)[k]?
      = if k < 8 * r.words.toNat then (line.drop (r.addr.toNat % 128))[k]? else none)
  ∧ ∀ (index : Nat) (s : State), (statusBytes index s).length = 64
      ∧ byteOf (statusBytes index s) 0 = partCode s.part
      ∧ (s.part = .running → byteOf (statusBytes index s) 0 = 2) ∧ (s.part = .failed → byteOf (statusBytes index s) 0 = 3)
      ∧ byteOf (statusBytes index s) 1 = (if s.reports.dropped then 1 else 0)
      ∧ fieldOf (statusBytes index s) 2 2 = s.reports.producer % 65536
      ∧ fieldOf (statusBytes index s) 4 2 = s.calendar.day % 65536
      ∧ fieldOf (statusBytes index s) 6 2 = s.calendar.minute % 65536
      ∧ byteOf (statusBytes index s) 8 = s.calendar.second % 256
      ∧ byteOf (statusBytes index s) 9 = (if s.calendar.isSet then 1 else 0)
      ∧ byteOf (statusBytes index s) 10 = (if s.sweep.active then 1 else 0)
      ∧ byteOf (statusBytes index s) 11 = 0
      ∧ fieldOf (statusBytes index s) 12 4 = s.sweep.cursor % 4294967296
      ∧ fieldOf (statusBytes index s) 16 2 = (match s.reports.latch with | none => 0 | some e => reportCode e.body)
      ∧ (s.reports.latch = none → fieldOf (statusBytes index s) 18 2 = 0xffff ∧ byteOf (statusBytes index s) 22 = 0
          ∧ byteOf (statusBytes index s) 23 = 0xff)
      ∧ (∀ e, s.reports.latch = some e →
          fieldOf (statusBytes index s) 18 2 = (match e.mailbox with | some m => m % 65536 | none => 0xffff)
          ∧ (∀ n, e.slot = some n → fieldOf (statusBytes index s) 20 2 = n % 65536
              ∧ byteOf (statusBytes index s) 22 = 1)
          ∧ (e.slot = none → byteOf (statusBytes index s) 22 = 0)
          ∧ byteOf (statusBytes index s) 23 = (match e.shelf with | some n => n % 256 | none => 0xff)
          ∧ ((statusBytes index s).drop 24).take 8 = reportDetail e.body)
      ∧ fieldOf (statusBytes index s) 32 2 = s.counts.tables % 65536
      ∧ fieldOf (statusBytes index s) 34 2 = s.counts.boxes % 65536
      ∧ fieldOf (statusBytes index s) 36 4 = s.counts.slots % 4294967296
      ∧ ∀ k, 40 ≤ k → k < 64 → byteOf (statusBytes index s) k = 0

/-! ### Commands of the command record -/

/-- CLOCK_SET: an argument in range sets the calendar with fraction 0 and is ACCEPTED; one out of range changes
nothing and is BAD_ARGUMENT. SWEEP_NOW: while no sweep is active one starts, its record fresh with the calendar's day,
and the command is ACCEPTED; while one is active it is SWEEP_BUSY and the record is as it was. A command whose code is
none of the six is BAD_COMMAND and has no other effect. A command is written by a write that covers the command record
with every byte enabled, and its code, argument and tag are read from that record. -/
def Obligations.ClockSetSweepNowAndBadCommand : Prop :=
  (∀ (offset : Nat) (c : Command) (w : HostWrite) (s : State), CommandWritten offset c w s → c.code = 3 →
      ∀ day minute second, day = fieldOf c.argument 0 4 → minute = fieldOf c.argument 4 2 →
        second = fieldOf c.argument 6 1 →
      (day ≤ 65535 ∧ minute ≤ 1439 ∧ second ≤ 59 → exec (.clockSet w) s = .next (calm (afterCommand offset w
        (makeReport (.commandDone 3 .accepted 0) none none none (some c.tag)
          { commandTaken offset c w s with calendar := ⟨0, second, minute, day, true⟩ }))))
      ∧ (¬ (day ≤ 65535 ∧ minute ≤ 1439 ∧ second ≤ 59) → exec (.clockSet w) s = .next (calm (afterCommand offset w
        (makeReport (.commandDone 3 .badArgument 0) none none none (some c.tag) (commandTaken offset c w s))))))
  ∧ (∀ (offset : Nat) (c : Command) (w : HostWrite) (s : State), CommandWritten offset c w s →
      (c.code = 2 → s.sweep.active = false → exec (.sweepNow w) s = .next (calm (afterCommand offset w
        (makeReport (.commandDone 2 .accepted 0) none none none (some c.tag) { commandTaken offset c w s with
          sweep := ⟨true, .visiting, if s.calendar.isSet then s.calendar.day else 0, 0, 0, 0, 0⟩ }))))
      ∧ (c.code = 2 → s.sweep.active = true → exec (.sweepNow w) s = .next (calm (afterCommand offset w
        (makeReport (.commandDone 2 .sweepBusy 0) none none none (some c.tag) (commandTaken offset c w s)))))
      ∧ (c.code = 0 ∨ 6 < c.code → exec (.badCommand w) s = .next (calm (afterCommand offset w
        (makeReport (.commandDone c.code .badCommand 0) none none none (some c.tag) (commandTaken offset c w s))))))
  ∧ ∀ (line : List Lane) (records : List AreaRecord) (c : Command),
      writtenCommand line records = some c ↔ .command ∈ records ∧ (∀ l ∈ line.take 16, l.enabled = true)
        ∧ c = ⟨fieldOf (laneData (line.take 16)) 0 2, ((laneData (line.take 16)).drop 4).take 8,
            BitVec.ofNat 32 (fieldOf (laneData (line.take 16)) 12 4)⟩

/-- BROADCAST_POST: the first failed check refuses it and nothing else happens; otherwise the entry becomes LIVE with the
ACTIVE mailboxes of its classes but for the source's owner, each counts it, its flag and mode following, and the command
is ACCEPTED with their number; a set formed empty ends at once by all-heard. Of the state that the command is taken in
nothing else changes but what the Lamp Composer derives. -/
def Obligations.PostFormsThePendingSet : Prop :=
  ∀ (offset number : Nat) (c : Command) (w : HostWrite) (s : State), CommandWritten offset c w s → c.code = 4 →
    number = fieldOf c.argument 0 4 → DirectoriesCanonical s → SourcesKept s →
    let b := broadcastAt s (number - 1)
    let done := fun outcome members => makeReport (.commandDone 4 outcome members) none none none (some c.tag)
    (number < 1 ∨ 16 < number ∨ b.present = false → exec (.broadcastPost w) s =
      .next (calm (afterCommand offset w (done .badArgument 0 (commandTaken offset c w s)))))
    ∧ (1 ≤ number → number ≤ 16 → b.present = true → b.live = true → exec (.broadcastPost w) s =
      .next (calm (afterCommand offset w (done .broadcastLive 0 (commandTaken offset c w s)))))
    ∧ (1 ≤ number → number ≤ 16 → b.present = true → b.live = false → isKept (slotAt s b.source).state = false →
      exec (.broadcastPost w) s = .next (calm (afterCommand offset w (done .sourceState 0 (commandTaken offset c w s)))))
    ∧ (1 ≤ number → number ≤ 16 → b.present = true → b.live = false → isKept (slotAt s b.source).state = true →
      ∃ u members, exec (.broadcastPost w) s = .next (calm (afterCommand offset w (done .accepted members.length u)))
        ∧ members.Nodup
        ∧ (∀ m, m ∈ members ↔ (boxAt s m).status = .active ∧ b.mask.getLsbD (boxAt s m).cls = true
            ∧ m ≠ (slotAt s b.source).owner)
        ∧ broadcastAt u (number - 1) = { b with live := decide (members ≠ []), pending := members }
        ∧ (∀ n, n ≠ number - 1 → broadcastAt u n = broadcastAt s n)
        ∧ (∀ m, m ∈ members → boxAt u m = afresh s { boxAt s m with
            unheard := (boxAt s m).unheard + 1
            urgentUnheard := (boxAt s m).urgentUnheard + (if b.urgent then 1 else 0) })
        ∧ (∀ m, m ∉ members → boxAt u m = boxAt s m)
        ∧ u = { commandTaken offset c w s with
            boxes := u.boxes, broadcasts := u.broadcasts, lamps := u.lamps, reports := u.reports }
        ∧ OnlyImagesChange (commandTaken offset c w s) u
        ∧ u.reports = if members = []
            then (makeReport (.broadcastEnded number .allHeard 0) none (some b.source) none none
              (commandTaken offset c w s)).reports
            else (commandTaken offset c w s).reports)

/-- BROADCAST_WITHDRAW: a number outside 1 to 16 is BAD_ARGUMENT, an IDLE entry NOT_LIVE; a LIVE broadcast ends, its
members lose its count, their flag and mode following, BROADCAST_ENDED with their number is made and then COMMAND_DONE. Of
the state that the command is taken in nothing else changes but what the Lamp Composer derives. -/
def Obligations.WithdrawEndsTheBroadcast : Prop :=
  ∀ (offset number : Nat) (c : Command) (w : HostWrite) (s : State), CommandWritten offset c w s → c.code = 5 →
    number = fieldOf c.argument 0 4 → (∀ n, (broadcastAt s n).pending.Nodup) →
    let b := broadcastAt s (number - 1)
    let done := fun outcome => makeReport (.commandDone 5 outcome 0) none none none (some c.tag)
    (number < 1 ∨ 16 < number → exec (.broadcastWithdraw w) s =
      .next (calm (afterCommand offset w (done .badArgument (commandTaken offset c w s)))))
    ∧ (1 ≤ number → number ≤ 16 → b.live = false → exec (.broadcastWithdraw w) s =
      .next (calm (afterCommand offset w (done .notLive (commandTaken offset c w s)))))
    ∧ (1 ≤ number → number ≤ 16 → b.live = true →
      ∃ u, exec (.broadcastWithdraw w) s = .next (calm (afterCommand offset w (done .accepted u)))
        ∧ broadcastAt u (number - 1) = { b with live := false, pending := [] }
        ∧ (∀ n, n ≠ number - 1 → broadcastAt u n = broadcastAt s n)
        ∧ (∀ m, m ∈ b.pending → boxAt u m = afresh s { boxAt s m with
            unheard := (boxAt s m).unheard - 1
            urgentUnheard := (boxAt s m).urgentUnheard - (if b.urgent then 1 else 0) })
        ∧ (∀ m, m ∉ b.pending → boxAt u m = boxAt s m)
        ∧ u = { commandTaken offset c w s with
            boxes := u.boxes, broadcasts := u.broadcasts, lamps := u.lamps, reports := u.reports }
        ∧ OnlyImagesChange (commandTaken offset c w s) u
        ∧ u.reports = (makeReport (.broadcastEnded number .withdrawn b.pending.length) none (some b.source) none none
            (commandTaken offset c w s)).reports)

/-- LAMP_REFRESH: every configured shelf's last-sent image becomes unknown, with the invalidated flag for an exchange in
flight; no other entry changes, and neither do images, link states and cursors, nor anything outside the lamps' half; the
command is ACCEPTED. -/
def Obligations.RefreshForgetsLastSentImages : Prop :=
  ∀ (offset : Nat) (c : Command) (w : HostWrite) (s : State), CommandWritten offset c w s → c.code = 6 →
    ∃ u, exec (.lampRefresh w) s = .next (calm (afterCommand offset w
        (makeReport (.commandDone 6 .accepted 0) none none none (some c.tag) u)))
      ∧ (∀ e, e < 192 → (shelfAt (commandTaken offset c w s) e).configured = true →
          shelfAt u e = { shelfAt (commandTaken offset c w s) e with
            lastSent := none
            invalidated := isInFlight (commandTaken offset c w s) e
              || (shelfAt (commandTaken offset c w s) e).invalidated })
      ∧ (∀ e, (shelfAt (commandTaken offset c w s) e).configured = false →
          shelfAt u e = shelfAt (commandTaken offset c w s) e)
      ∧ (∀ k, { linkState u.lamps k with dirty := [] } = { linkState (commandTaken offset c w s).lamps k with dirty := [] })
      ∧ u = { commandTaken offset c w s with lamps := { (commandTaken offset c w s).lamps with
          shelves := u.lamps.shelves, linkA := u.lamps.linkA, linkB := u.lamps.linkB } }

/-- RESTART while RUNNING enters LOADING, after the other record of its transaction has taken effect, with the straps
sampled (an operand of the command, log 24), the counts at 0 and every shadow, table, context, latch, pending set and
link record empty (`ShadowsEmpty`, whose values are log 7's), and the reports not yet asked for dropped; it keeps the
Outbound Queue, the response order, the calendar, the cadence, the error latch, the report indexes and the dropped flag,
and the command's tag for its COMMAND_DONE. RESTART in FAILED does the same, dropping held reports too (log 43), its write
forwarded as written and no other record of it taken, and keeps no tag, so that its load makes no COMMAND_DONE. -/
def Obligations.RestartEntersLoading : Prop :=
  ∀ (offset : Nat) (c : Command) (w : HostWrite) (straps : BitVec 4) (s r : State), r = { s with straps := straps } →
    let entered := fun (v u : State) =>
      u.part = .loading ∧ ShadowsEmpty u
      ∧ u.transit = { v.transit with regions := [], ctlSel := straps, turn := .upstream } ∧ u.counts = ⟨0, 0, 0⟩
      ∧ u.calendar = s.calendar ∧ u.lamps.phase = s.lamps.phase ∧ u.lamps.cycles = s.lamps.cycles
      ∧ u.reports = { v.reports with held := [] } ∧ u.loader = some ⟨0, 0, [], 0, []⟩ ∧ u.failing = none
      ∧ u.prun = s.prun ∧ u.straps = straps ∧ u.now = s.now ∧ u.pending = s.pending
    (CommandWritten offset c w r → c.code = 1 →
      ∃ u v, exec (.restart w straps) s = .next (calm u) ∧ v = afterCommand offset w (commandTaken offset c w r)
        ∧ entered v u ∧ u.restartTag = some c.tag)
    ∧ (PortReady (.write w) r → s.part = .failed → txnFault (.write w) = none →
      areaOffset s (txnAddr (.write w)) = some offset →
      writtenCommand (lineLanes w) (touchedRecords offset w.words.toNat) = some c → c.code = 1 →
      ∃ u v, exec (.restart w straps) s = .next (calm u)
        ∧ v = joinOrder none (place [⟨.write, w.addr.toNat, w.words.toNat, writeLanes w, .host false []⟩]
            (accepted (.write w) r))
        ∧ entered v u ∧ u.restartTag = none)

/-! ### Memory's answers and grants of room -/

/-- Memory's answer goes to the oldest entry, which leaves the queue (every entry counts as sent, log 9): a host
transaction's oldest unfixed response is fixed (DONE, ADJUSTED or MEMFAULT; short data is filled with zeros, log 8), a
MEMFAULT is reported, in LOADING too (log 20), naming the record of a directory while RUNNING; a report write's DONE
advances the producer index and its MEMFAULT drops the report; a stamp or state write's MEMFAULT is reported; a loader
read's data goes to the loader, and an answer to a loader's write, or to an entry that only drains, does nothing; with no
entry the answer is discarded. A load that has failed settles when its entries have drained (`settleFailure`, log 37). -/
def Obligations.AnswerGoesToTheOldestEntry : Prop :=
  (∀ (m : MemAnswer) (e : Entry) (rest : List Entry) (s : State),
    (s.transit.queue = [] → exec (.memoryAnswer m) s = .next (settle s))
    ∧ (s.transit.queue = e :: rest →
      let u := { s with transit := { s.transit with queue := rest } }
      let rested := fun v : State => settle (settleFailure v)
      let fixed := fun r : Response => { u with transit := { u.transit with order := fixFirst r u.transit.order } }
      let data := if e.kind = .write then []
        else if m.fault then List.replicate (8 * e.words) 0 else fitBytes (8 * e.words) m.data
      (∀ adjusted overlay, e.origin = .host adjusted overlay → m.fault = false →
        exec (.memoryAnswer m) s = .next (rested (fixed
          ⟨if adjusted then .adjusted else .done, if e.kind = .write then [] else overlaid overlay data⟩)))
      ∧ (∀ adjusted overlay, e.origin = .host adjusted overlay → m.fault = true →
        exec (.memoryAnswer m) s = .next (rested (makeReport (.memFault e.addr e.kind .host) (faultNames s e.addr).1
          (faultNames s e.addr).2 none none (fixed ⟨.memFault, data⟩))))
      ∧ (e.origin = .translated → m.fault = true →
        exec (.memoryAnswer m) s = .next (rested (makeReport (.memFault e.addr e.kind .translated)
          (faultNames s e.addr).1 (faultNames s e.addr).2 none none (fixed ⟨.memFault, data⟩))))
      ∧ (e.origin = .translated → m.fault = false → e.kind = .read →
        exec (.memoryAnswer m) s = .next (rested (fixed ⟨.done, data⟩)))
      ∧ (∀ n, e.origin = .stamp n ∨ e.origin = .slotState n → m.fault = false →
        exec (.memoryAnswer m) s = .next (rested u))
      ∧ (∀ n, e.origin = .stamp n → m.fault = true →
        exec (.memoryAnswer m) s = .next (rested (makeReport (.memFault e.addr e.kind .stamp)
          (if s.part = .running then some (slotAt s n).owner else none) (some n) none none u)))
      ∧ (∀ n, e.origin = .slotState n → m.fault = true →
        exec (.memoryAnswer m) s = .next (rested (makeReport (.memFault e.addr e.kind .state)
          (if s.part = .running then some (slotAt s n).owner else none) (some n) none none u)))
      ∧ (∀ r, e.origin = .report → s.reports.writing = some r → m.fault = false →
        exec (.memoryAnswer m) s = .next (rested { u with
          reports := { s.reports with writing := none, producer := (s.reports.producer + 1) % 256 } }))
      ∧ (∀ r, e.origin = .report → s.reports.writing = some r → m.fault = true →
        exec (.memoryAnswer m) s = .next (rested { u with
          reports := { s.reports with writing := none, dropped := true } }))
      ∧ (∀ i, e.origin = .loadRead i → s.part = .loading → m.fault = false →
        exec (.memoryAnswer m) s = .next (rested (loaderAnswered i m.data u)))
      ∧ (e.origin = .drained ∨ (e.origin = .loadWrite ∧ (m.fault = false ∨ s.part ≠ .loading))
          ∨ (∃ i, e.origin = .loadRead i ∧ s.part ≠ .loading) →
        exec (.memoryAnswer m) s = .next (rested u))))
  ∧ (∀ (s : State) (addr base size : Nat),
      (s.part = .running → regionOf s addr = some ⟨.slotDir, base, size⟩ →
        faultNames s addr = (some (slotAt s ((addr - base) / 32)).owner, some ((addr - base) / 32)))
      ∧ (s.part = .running → regionOf s addr = some ⟨.mailboxDir, base, size⟩ →
        faultNames s addr = (some ((addr - base) / 64), none))
      ∧ (s.part ≠ .running ∨ (∀ g, regionOf s addr = some g → g.kind ≠ .slotDir ∧ g.kind ≠ .mailboxDir) →
        faultNames s addr = (none, none)))
  ∧ (∀ (r : Response) (known : List Response) (later : List (Option Response)),
      fixFirst r (known.map some ++ none :: later) = known.map some ++ some r :: later)
  ∧ (∀ (overlay : List (Option Byte)) (bytes : List Byte) (n k : Nat),
      (overlaid overlay bytes)[k]?
        = bytes[k]?.map (fun b => match overlay[k]? with | some (some v) => v | _ => b)
      ∧ (fitBytes n bytes)[k]? = if k < n then some (bytes[k]?.getD 0) else none)

/-- A report is made: under RESET not at all, in FAILED LOAD_FAILED alone; otherwise with its fields as they stand it
joins the held list when fewer than 255 are unread or unwritten and is dropped otherwise; an ERROR fills an empty latch
and leaves a held one; the ring's base, its indexes and the record being written stay. The errors are the kinds whose code is above 20h. ATTN is asserted just while the latch holds a
code or the ring holds an unread record; reports not yet written do not assert it. -/
def Obligations.ReportIsHeldLatchedOrDropped : Prop :=
  (∀ (u : ReportUnit), u.producer < 256 → u.consumer < 256 →
      unread u = (256 + u.producer - u.consumer) % 256
      ∧ unwritten u = u.held.length + (if u.writing = none then 0 else 1))
  ∧ (∀ s : State, RingBounded s →
      (attn s = true ↔ s.reports.latch ≠ none ∨ s.reports.producer ≠ s.reports.consumer))
  ∧ (∀ body : ReportBody, 0x20 < reportCode body ↔ (match body with
      | .badTransition .. | .badOwner .. | .fieldRefused .. | .extentOutside .. | .extentClash .. | .lampClash ..
      | .broadcastPinned .. | .mailboxNotEmpty .. | .configRefused .. | .aliasWrite .. | .linkMisformed ..
      | .memFault .. | .shelfLost .. | .shelfHalted .. | .loadFailed .. => True
      | _ => False))
  ∧ ∀ (body : ReportBody) (mailbox slot shelf : Option Nat) (tag : Option (BitVec 32)) (s : State) (r : Report),
    r = ⟨body, mailbox, (match mailbox with | some m => (boxAt s m).extension | none => 0), slot, shelf, tag,
      ⟨s.calendar.day, s.calendar.minute, s.calendar.second, s.calendar.isSet⟩⟩ →
    let t := makeReport body mailbox slot shelf tag s
    (s.part = .reset → t = s)
    ∧ (s.part = .failed → (∀ cause, body ≠ .loadFailed cause) → t = s)
    ∧ (s.part = .running ∨ s.part = .loading ∨ (s.part = .failed ∧ ∃ cause, body = .loadFailed cause) →
        t = { s with reports := t.reports }
        ∧ t.reports.producer = s.reports.producer ∧ t.reports.consumer = s.reports.consumer
        ∧ t.reports.writing = s.reports.writing ∧ t.reports.base = s.reports.base
        ∧ (unread s.reports + unwritten s.reports < 255 →
            t.reports.held = s.reports.held ++ [r] ∧ t.reports.dropped = s.reports.dropped)
        ∧ (255 ≤ unread s.reports + unwritten s.reports →
            t.reports.held = s.reports.held ∧ t.reports.dropped = true)
        ∧ t.reports.latch = if 0x20 < reportCode body ∧ s.reports.latch = none
            then some ⟨body, mailbox, slot, shelf⟩ else s.reports.latch)

/-- The room arbiter: what room each requester's waiting request asks (the port asks none while 64 responses are
outstanding, log 15; report writes are asked for while the ring's base is known, in LOADING too, log 21); the turn passes
over requesters with none, and stays where none has one (the model's choice, log 40); under RESET it is the upstream
port's; a request is granted while its requester holds the turn and the free room covers it. A granted report write places the oldest held report at the ring entry of the producer index and
waits for its answer; a granted loader request places its group, the waiting writes before the next read (log 18). Either
command given while its request is not granted has no effect, which is the model's choice (log 3). A report record's 32
bytes, each kind's code and detail, and the codes of section 11.1; the slot and tag bytes of a report that names none are
free values (log 11), and so is a non-FREE count above 65,535 in two bytes (log 12): of these nothing is said. The entry and
check bytes of LOAD_FAILED for VERSION and MEMFAULT are FFh and 0 (log 22). -/
def Obligations.GrantedReportAndLoaderWrites : Prop :=
  (∀ s : State,
    (isGranted .control (passTurn s) = true → ∀ r held base, s.reports.held = r :: held → s.reports.base = some base →
      exec .reportWrite s = .next (settle (place
        [⟨.write, base + s.reports.producer * 32, 4, (reportBytes s.transit.joined r).map fun b => ⟨true, b⟩, .report⟩]
        { setTurn .loader (passTurn s) with reports := { s.reports with held := held, writing := some r } })))
    ∧ (isGranted .control (passTurn s) = false → exec .reportWrite s = .next (settle s))
    ∧ (isGranted .loader (passTurn s) = true → ∀ l, s.loader = some l →
      (∀ g gs, l.writes = g :: gs → exec .loaderRoomGrant s = .next (settle (place g
        { setTurn .upstream (passTurn s) with loader := some { l with writes := gs } })))
      ∧ (l.writes = [] → exec .loaderRoomGrant s = .next (settle (place
        [⟨.read, loadAddr s l.next, 16, [], .loadRead l.next⟩]
        { setTurn .upstream (passTurn s) with loader := some { l with next := l.next + 1 } }))))
    ∧ (isGranted .loader (passTurn s) = false → exec .loaderRoomGrant s = .next (settle s)))
  ∧ (∀ (t : HostTxn) (s : State),
      let formed := formFault (txnAddr t) (txnWords t) = none
      let inside := fun kind => s.part = .running ∧ areaOffset s (txnAddr t) = none
        ∧ (regionOf s (txnAddr t)).map (·.kind) = some kind
      let written := ∃ w, t = .write w
      (¬ formed → roomAsked s t = none)
      ∧ (formed → written → inside .slotDir →
          roomAsked s t = some (1 + (coveredRecords (txnAddr t) (txnWords t) 32).length))
      ∧ (written → inside .aliasWindow ∨ inside .report → roomAsked s t = none)
      ∧ (formed → ¬ (written ∧ (inside .slotDir ∨ inside .aliasWindow ∨ inside .report)) → roomAsked s t = some 1))
  ∧ (∀ (n : Nat) (s : State),
      (∀ t later, s.transit.arrivals = t :: later → request s .upstream
        = if s.part ≠ .loading ∧ s.transit.order.length < 64 then roomAsked s t else none)
      ∧ (s.transit.arrivals = [] → request s .upstream = none)
      ∧ request s .deposit = (if s.part = .running ∧ s.deposit.claims ≠ [] then some 2 else none)
      ∧ request s .sweep = (if s.part = .running ∧ s.sweep.active = true ∧ s.sweep.step = .visiting then some 1 else none)
      ∧ request s .control = (if s.part ≠ .reset ∧ s.reports.held ≠ [] ∧ s.reports.writing = none ∧ s.reports.base ≠ none
          then some 1 else none)
      ∧ (request s .loader = some n ↔ s.part = .loading ∧ ∃ l, s.loader = some l
          ∧ ((∃ g gs, l.writes = g :: gs ∧ n = g.length)
            ∨ (l.writes = [] ∧ l.next < 20559 ∧ (l.next < 5 ∨ 5 ≤ l.judged) ∧ n = 1))))
  ∧ (∀ (q : Requester) (s : State),
      let turn := s.transit.turn
      let rotation := fun k : Nat => Nat.repeat nextRequester k turn
      setTurn q s = { s with transit := { s.transit with turn := q } }
      ∧ [Requester.upstream, .deposit, .sweep, .control, .loader].map nextRequester
          = [.deposit, .sweep, .control, .loader, .upstream]
      ∧ (s.part = .reset → passTurn s = setTurn .upstream s)
      ∧ (∀ k, k < 5 → s.part ≠ .reset → request s (rotation k) ≠ none → (∀ i, i < k → request s (rotation i) = none) →
          passTurn s = setTurn (rotation k) s)
      ∧ ((∀ r, request s r = none) → s.part ≠ .reset → passTurn s = s)
      ∧ (isGranted q s = true ↔ turn = q ∧ ∃ n, request s q = some n ∧ n ≤ 32 - s.transit.queue.length))
  ∧ (∀ (index : Nat) (r : Report),
      let b := reportBytes index r
      b.length = 32 ∧ byteOf b 0 = reportCode r.body ∧ byteOf b 1 = (if 0x20 < reportCode r.body then 1 else 0)
      ∧ fieldOf b 2 2 = (match r.mailbox with | some m => m % 65536 | none => 0xffff)
      ∧ fieldOf b 4 4 = r.extension % 4294967296
      ∧ (∀ n, r.slot = some n → fieldOf b 8 2 = n % 65536 ∧ byteOf b 10 = 1) ∧ (r.slot = none → byteOf b 10 = 0)
      ∧ byteOf b 11 = (match r.shelf with | some e => e % 256 | none => 0xff)
      ∧ (∀ tag, r.tag = some tag → fieldOf b 12 4 = tag.toNat ∧ byteOf b 16 = 1) ∧ (r.tag = none → byteOf b 16 = 0)
      ∧ byteOf b 17 = (if r.reading.isSet then 1 else 0) ∧ fieldOf b 18 2 = r.reading.day % 65536
      ∧ fieldOf b 20 2 = r.reading.minute % 65536 ∧ byteOf b 22 = r.reading.second % 256 ∧ byteOf b 23 = 0
      ∧ b.drop 24 = reportDetail r.body)
  ∧ (∀ (a b c : Nat) (low : Bool),
      let flag := if low then 1 else 0
      KindReads (.loadDone a b c) 0x01 [(0, 2, a), (2, 2, b), (4, 4, c)]
      ∧ (∀ x, KindReads (.commandDone a x b) 0x02 [(0, 2, a), (2, 1, outcomeCode x), (4, 2, b)])
      ∧ KindReads (.sweepDone a b c) 0x03 [(0, 3, a), (3, 3, b), (6, 1, c)]
      ∧ KindReads (.depositSilent a b) 0x04 [(0, 2, a), (2, 2, b)]
      ∧ KindReads (.depositTimeout a b) 0x05 [(0, 2, a), (2, 1, b)]
      ∧ KindReads (.mailboxFull a) 0x06 [(0, 1, a)]
      ∧ (∀ x, KindReads (.mailboxClosed x) 0x07 [(0, 1, statusCode x)])
      ∧ KindReads .noChannel 0x08 []
      ∧ (∀ x, KindReads (.lateCommit x) 0x09 [(0, 1, verdictCode x)])
      ∧ (∀ x, KindReads (.broadcastEnded a x b) 0x0a [(0, 1, a), (1, 1, endReasonCode x), (2, 2, b)])
      ∧ (∀ x, KindReads (.shelfOnline low x) 0x0b [(0, 1, flag), (1, 1, shelfLinkCode x)])
      ∧ (∀ x, KindReads (.shelfImageMismatch low x a b) 0x0c
          [(0, 1, flag), (1, 1, exchangeCode x), (2, 2, a), (4, 2, b)])
      ∧ KindReads (.shelfWatch low a b) 0x0d [(0, 1, flag), (1, 1, a), (2, 1, b)]
      ∧ KindReads (.latchPoolEmpty a) 0x0e [(0, 1, a)]
      ∧ KindReads (.greetingInPlay a b) 0x0f [(0, 5, a), (5, 1, b)]
      ∧ KindReads (.procStopped low) 0x10 [(0, 1, flag)] ∧ KindReads (.procRunning low) 0x11 [(0, 1, flag)]
      ∧ (∀ x, KindReads (.badTransition x a) 0x21 [(0, 1, slotStateCode x), (1, 1, a)])
      ∧ (∀ x, KindReads (.badOwner x) 0x22 [(0, 1, ownerFaultCode x)])
      ∧ (∀ x, KindReads (.fieldRefused x) 0x23 [(0, 1, fieldNameCode x)])
      ∧ KindReads (.extentOutside a) 0x24 [(0, 3, a)] ∧ KindReads (.extentClash a) 0x25 [(0, 2, a)]
      ∧ KindReads (.lampClash a) 0x26 [(0, 2, a)] ∧ KindReads (.broadcastPinned a) 0x27 [(0, 1, a)]
      ∧ (a ≤ 65535 → KindReads (.mailboxNotEmpty a) 0x28 [(0, 2, a)])
      ∧ (∀ x y, KindReads (.configRefused a x y) 0x29 [(0, 5, a), (5, 1, recordKindCode x), (6, 1, checkNameCode y)])
      ∧ KindReads (.aliasWrite a) 0x2a [(0, 5, a)]
      ∧ (∀ x y, KindReads (.linkMisformed a x b y) 0x2b
          [(0, 5, a), (5, 1, linkKindCode x), (6, 1, b), (7, 1, formFaultCode y)])
      ∧ (∀ x y, KindReads (.memFault a x y) 0x2c [(0, 5, a), (5, 1, linkKindCode x), (6, 1, originatorCode y)])
      ∧ (∀ x, KindReads (.shelfLost low x) 0x2d [(0, 1, flag), (1, 1, shelfLinkCode x)])
      ∧ (∀ x, KindReads (.shelfHalted low x) 0x2e [(0, 1, flag), (1, 1, haltCauseCode x)])
      ∧ KindReads (.loadFailed (.version a)) 0x2f [(0, 2, a), (5, 1, 0xff), (7, 1, 0)]
      ∧ (∀ x : Option Nat, ∀ y, KindReads (.loadFailed (.map x y)) 0x2f
          [(5, 1, match x with | some e => e | none => 0xff), (6, 1, mapCheckCode y), (7, 1, 1)])
      ∧ KindReads (.loadFailed (.memFault a)) 0x2f [(0, 5, a), (5, 1, 0xff), (7, 1, 2)])
  ∧ [SlotState.free, .recording, .new, .heard, .saved, .discarded, .expired].map slotStateCode = List.range 7
  ∧ [Verdict.none, .kept, .silent, .timeout, .load].map verdictCode = List.range 5
  ∧ [MailboxStatus.unassigned, .active, .suspended].map statusCode = List.range 3
  ∧ [LampMode.off, .steady, .slow, .fast].map modeCode = List.range 4
  ∧ [Greeting.primary, .afterHours, .onBreak, .absence, .system, .none].map greetingCode = List.range 6
  ∧ [PartState.reset, .loading, .running, .failed].map partCode = List.range 4
  ∧ [CommandOutcome.accepted, .sweepBusy, .badArgument, .broadcastLive, .sourceState, .notLive, .badCommand].map outcomeCode
      = List.range 7
  ∧ [ShelfLink.unconfigured, .probing, .online, .lost, .halted].map shelfLinkCode = List.range 5
  ∧ [ExchangeKind.lampSet, .probe].map exchangeCode = [1, 2] ∧ [LinkKind.read, .write].map linkKindCode = List.range 2
  ∧ [EndReason.allHeard, .withdrawn, .endDay].map endReasonCode = List.range 3
  ∧ [OwnerFault.notFree, .range].map ownerFaultCode = List.range 2
  ∧ [FieldName.source, .audioBlock, .urgent, .status, .cls, .capacity, .lamp, .schedule, .primary, .afterHours, .onBreak,
      .absence, .absenceUntil, .extension, .acknowledge].map fieldNameCode = List.range 15
  ∧ [RecordKind.command, .consumer, .cls, .calibration, .breakList, .schedule, .broadcast, .shelf, .reportRegion].map
      recordKindCode = List.range 9
  ∧ [CheckName.partialEntry, .retention, .depositLength, .idleTime, .lampPolicy, .flag, .locator, .offset, .gain,
      .threshold, .rangeOrder, .rangeGap, .rangeSequence, .windowRange, .windowOrder, .windowGap, .windowSequence, .urgent,
      .endDay, .broadcastLive, .shelfFlag, .consumer, .reportRegion].map checkNameCode = List.range 23
  ∧ [FormFault.align, .length, .line].map formFaultCode = List.range 3
  ∧ [MapCheck.kind, .align, .bound, .size, .count, .overlap].map mapCheckCode = List.range 6
  ∧ [Originator.host, .translated, .stamp, .state].map originatorCode = List.range 4
  ∧ [HaltCause.checkError, .watch].map haltCauseCode = List.range 2

/-! ### The clock -/

/-- An idle deadline reached while RUNNING makes an OPEN context LAPSED and its timeout claim waits behind the others;
a latch's idle deadline reached releases the latch and ends the empty spell. A granted timeout claim for a slot still
RECORDING with that context: the slot is DISCARDED with verdict TIMEOUT and the context's meter, the context is
released, a stamp write and a state write join, and DEPOSIT_TIMEOUT is made; of the owner's record only the counts, queues,
flag and lamp mode can differ, and nothing else of the part but what the Lamp Composer derives; for a slot that is not, the
claim ends without effect. (The clock stands at the deadline, log 5; a grant passes the turn on as log 40 says; the state
write's bytes that are not enabled carry data 0, log 27.) -/
def Obligations.IdleDeadlinesLapseReleaseAndDiscard : Prop :=
  (∀ (k : Nat) (s : State),
      (∀ c deadline, s.part = .running → k < 48 → contextAt s k = some c → c.state = .opened deadline →
        ∃ u, exec (.depositIdleExpiry k) s = .next (settle u)
          ∧ contextAt u k = some { c with state := .lapsed } ∧ (∀ i, i ≠ k → contextAt u i = contextAt s i)
          ∧ u = { s with
              now := max s.now deadline
              deposit := { s.deposit with
                contexts := u.deposit.contexts, claims := s.deposit.claims ++ [⟨k, c.slot⟩] } })
      ∧ (∀ l, k < 48 → latchAt s k = some l →
        ∃ u, exec (.latchIdleExpiry k) s = .next (settle u)
          ∧ latchAt u k = none ∧ (∀ i, i ≠ k → latchAt u i = latchAt s i)
          ∧ u = { s with
              now := max s.now l.deadline
              greetings := { s.greetings with latches := u.greetings.latches, emptySpell := false } }))
  ∧ (∀ (claim : TimeoutClaim) (claims : List TimeoutClaim) (s : State), isGranted .deposit (passTurn s) = true →
      s.deposit.claims = claim :: claims →
      let r := slotAt s claim.slot
      let v := { setTurn .sweep (passTurn s) with deposit := { s.deposit with claims := claims } }
      (¬ (r.state = .recording ∧ r.context = some claim.context) → exec .timeoutClaim s = .next (settle v))
      ∧ ∀ c, r.state = .recording → r.context = some claim.context → contextAt s claim.context = some c →
        let r' : SlotRec := { r with state := .discarded, level := c.level, verdict := .timeout, context := none }
        ∃ u, exec .timeoutClaim s = .next (settle
            (makeReport (.depositTimeout c.level.voiced c.idle) (some r.owner) (some claim.slot) none none u))
          ∧ slotAt u claim.slot = r' ∧ (∀ i, i ≠ claim.slot → slotAt u i = slotAt s i)
          ∧ contextAt u claim.context = none ∧ (∀ i, i ≠ claim.context → contextAt u i = contextAt s i)
          ∧ (∀ m, m ≠ r.owner → boxAt u m = boxAt s m) ∧ OnlyCountsFollow r.owner s u ∧ OnlyImagesChange s u
          ∧ u = { s with
              slots := u.slots, boxes := u.boxes, lamps := u.lamps
              deposit := { s.deposit with
                contexts := u.deposit.contexts, claims := claims.filter (·.context != claim.context) }
              transit := { s.transit with
                turn := .sweep, joined := s.transit.joined + 2
                queue := s.transit.queue ++
                  [⟨.write, regionBase s .slotDir + claim.slot * 32 + 8, 2,
                      (stampedBytes claim.slot s.transit.joined r').map (fun b => ⟨true, b⟩), .stamp claim.slot⟩,
                   ⟨.write, regionBase s .slotDir + claim.slot * 32, 1,
                      [dead, dead, ⟨true, 5⟩, dead, dead, dead, dead, dead], .slotState claim.slot⟩] } })

/-- A granted sweep visit: a due slot with no pin becomes EXPIRED with its stamps kept and a state write of its own, a
due slot with a pin is counted skipped and left, another slot is left; the cursor moves on, and the turn as log 40
says. Of the owner's record only the counts, queues, flag and lamp mode can differ, and nothing else of the part but what
the Lamp Composer derives; the state write's bytes that are not enabled carry data 0 (log 27). -/
def Obligations.SweepVisitExpiresDueSlots : Prop :=
  ∀ (n : Nat) (s : State), isGranted .sweep (passTurn s) = true → s.sweep.cursor = n → n + 1 < 65536 →
    let r := slotAt s n
    let pins := s.broadcasts.toList.countP fun b => b.live && b.source == n
    let due := (r.state = .new ∨ r.state = .heard ∨ r.state = .saved) ∧ ∃ d, r.expiry = .on d ∧ d ≤ s.sweep.day
    let on := fun expired skipped : Nat => { s.sweep with
      cursor := n + 1, step := .visiting, expired := s.sweep.expired + expired, skipped := s.sweep.skipped + skipped }
    let turned := setTurn .control (passTurn s)
    (¬ due → exec .sweepVisit s = .next (settle { turned with sweep := on 0 0 }))
    ∧ (due → pins ≠ 0 → exec .sweepVisit s = .next (settle { turned with sweep := on 0 1 }))
    ∧ (due → pins = 0 → ∃ u, exec .sweepVisit s = .next (settle u)
        ∧ slotAt u n = { r with state := .expired } ∧ (∀ i, i ≠ n → slotAt u i = slotAt s i)
        ∧ (∀ m, m ≠ r.owner → boxAt u m = boxAt s m) ∧ OnlyCountsFollow r.owner s u ∧ OnlyImagesChange s u
        ∧ u = { s with
            slots := u.slots, boxes := u.boxes, lamps := u.lamps, sweep := on 1 0
            transit := { s.transit with
              turn := .control, joined := s.transit.joined + 1
              queue := s.transit.queue ++ [⟨.write, regionBase s .slotDir + n * 32, 1,
                [dead, dead, ⟨true, 6⟩, dead, dead, dead, dead, dead], .slotState n⟩] } })

/-- The last visit of a sweep, to slot 65,535, is followed in the same step (log 16) by the end-day claim and SWEEP_DONE:
the due slot expires, is skipped or is left as in any visit; each LIVE broadcast whose end day is earlier than the sweep
day ends, in ascending order, its members losing its count, urgent or not; the record becomes not active with cursor 65,536
and its totals, its step and day as they stood (log 39); the reports are those of the endings and then SWEEP_DONE; the turn
has passed on from the visit's grant (log 40). Of the owner's and the members' records only the counts, queues, flag and
lamp mode can differ, the other mailboxes stay, and so does the rest of the part but what the Lamp Composer derives; the
state write's bytes that are not enabled carry data 0 (log 27). -/
def Obligations.LastVisitEndsTheSweep : Prop :=
  ∀ s : State, isGranted .sweep (passTurn s) = true → s.sweep.cursor = 65535 →
    (∀ n, (broadcastAt s n).pending.Nodup) →
    let r := slotAt s 65535
    let pins := s.broadcasts.toList.countP fun b => b.live && b.source == 65535
    let due := (r.state = .new ∨ r.state = .heard ∨ r.state = .saved) ∧ ∃ d, r.expiry = .on d ∧ d ≤ s.sweep.day
    let ends := fun b : Broadcast => b.live && (match b.endDay with | some d => decide (d < s.sweep.day) | none => false)
    let lost := fun (m : Nat) (p : Broadcast → Bool) =>
      s.broadcasts.toList.countP fun b => ends b && b.pending.contains m && p b
    let counted := fun (m : Nat) (b : MailboxRec) => { b with
      unheard := b.unheard - lost m (fun _ => true), urgentUnheard := b.urgentUnheard - lost m (·.urgent) }
    ∀ expired skipped : Nat, (expired = 1 ↔ due ∧ pins = 0) → (skipped = 1 ↔ due ∧ pins ≠ 0) →
      expired ≤ 1 → skipped ≤ 1 →
    ∃ u, exec .sweepVisit s = .next (settle u)
      ∧ slotAt u 65535 = (if expired = 1 then { r with state := .expired } else r)
      ∧ (∀ i, i ≠ 65535 → slotAt u i = slotAt s i)
      ∧ (∀ n, broadcastAt u n =
          if ends (broadcastAt s n) then { broadcastAt s n with live := false, pending := [] } else broadcastAt s n)
      ∧ (∀ m, plainFields (boxAt u m) = plainFields (counted m (boxAt s m))
          ∧ (lost m (fun _ => true) ≠ 0 ∨ (m = r.owner ∧ expired = 1) → boxAt u m = afresh s (boxAt u m))
          ∧ (m ≠ r.owner ∨ expired = 0 → boxAt u m =
              if lost m (fun _ => true) = 0 then boxAt s m else afresh s (counted m (boxAt s m))))
      ∧ OnlyImagesChange s u
      ∧ u = { s with
          slots := u.slots, boxes := u.boxes, broadcasts := u.broadcasts, lamps := u.lamps
          sweep := ⟨false, .reporting, s.sweep.day, 65536, s.sweep.expired + expired, s.sweep.skipped + skipped,
            s.broadcasts.toList.countP ends⟩
          reports := (makeReport
            (.sweepDone (s.sweep.expired + expired) (s.sweep.skipped + skipped) (s.broadcasts.toList.countP ends))
            none none none none ((List.range 16).foldl (fun v n =>
              let b := broadcastAt s n
              if ends b then makeReport (.broadcastEnded (n + 1) .endDay b.pending.length) none (some b.source) none none
                v
              else v) s)).reports
          transit := { s.transit with
            turn := .control, joined := s.transit.joined + expired
            queue := s.transit.queue ++ (if expired = 1 then
              [⟨.write, regionBase s .slotDir + 65535 * 32, 1,
                [dead, dead, ⟨true, 6⟩, dead, dead, dead, dead, dead], .slotState 65535⟩] else []) } }

/-- One advance of the second, outside RESET: minute and day follow, the day stays at 65,535; the passage into second
0 of the sweep minute starts a sweep while RUNNING with the calendar set and no sweep active. A cadence tick advances
the phase by one modulo 8, and while RUNNING sets the cadence-due flag of both links; under RESET there is no tick. The
commands say that the second or the tick is complete, whatever the counts of cycles show, and set them to 0 (log 5). -/
def Obligations.SecondsAndCadenceTicksAdvance : Prop :=
  (∀ s : State, s.calendar.day ≤ 65535 →
      (s.part = .reset → exec .calendarAdvance s = .next (settle s))
      ∧ (s.part ≠ .reset → ∀ c : Calendar,
        c = (if s.calendar.second < 59 then ⟨0, s.calendar.second + 1, s.calendar.minute, s.calendar.day, s.calendar.isSet⟩
          else if s.calendar.minute < 1439 then ⟨0, 0, s.calendar.minute + 1, s.calendar.day, s.calendar.isSet⟩
          else ⟨0, 0, 0, min 65535 (s.calendar.day + 1), s.calendar.isSet⟩) →
        exec .calendarAdvance s = .next (settle
          (if s.part = .running ∧ c.isSet = true ∧ c.second = 0 ∧ s.control.header.sweepMinute = some c.minute
              ∧ s.sweep.active = false
            then { s with calendar := c, sweep := ⟨true, .visiting, c.day, 0, 0, 0, 0⟩ }
            else { s with calendar := c }))))
  ∧ (∀ s : State,
      (s.part = .reset → exec .cadenceTick s = .next (settle s))
      ∧ (s.part ≠ .reset → exec .cadenceTick s = .next (settle { s with lamps := { s.lamps with
          phase := (s.lamps.phase + 1) % 8
          cycles := 0
          linkA := { s.lamps.linkA with cadenceDue := decide (s.part = .running) || s.lamps.linkA.cadenceDue }
          linkB := { s.lamps.linkB with cadenceDue := decide (s.part = .running) || s.lamps.linkB.cadenceDue } } })))

/-! ### The lamp links -/

/-- A free link of a RUNNING part chooses, in this order: a CADENCE with the phase when one is due; a LAMP_SET with the
composed image for the next dirty ONLINE shelf after the cursor, its sequence advanced; a PROBE for the lowest shelf whose
probe moment has been reached (from the CLK32 edge that reaches it, so before the other events of that edge are taken; the
model's choice, log 4). A busy link, a part not RUNNING, or a link with none of these to send does nothing. Each
choice leaves the other link, every other shelf entry and everything outside the lamps' half as they were.
The next dirty ONLINE shelf is the first such address after the cursor, the search going on from 0 up to the cursor. A
frame is closed by the word that makes its words sum to 0; modes are packed two bits a lamp, eight a word. While it sends,
the link puts out the frame's words in ascending order, each least significant bit first. -/
def Obligations.LinkChoosesItsFrame : Prop :=
  (∀ (k : Link) (s : State),
      let x := linkState s.lamps k
      let u := chooseLink k s
      let moved := { linkState u.lamps k with dirty := [] }
      let others := fun kept : Nat → Prop => u = { s with lamps := u.lamps }
        ∧ u.lamps.phase = s.lamps.phase ∧ u.lamps.cycles = s.lamps.cycles
        ∧ (∀ i, i ≠ k → linkState u.lamps i = linkState s.lamps i) ∧ ∀ e, kept e → shelfAt u e = shelfAt s e
      (s.part ≠ .running ∨ x.activity ≠ .idle → u = s)
      ∧ (x.cadenceDue = false → nextDirty s.lamps k = none →
          (∀ a t, a < 96 → (shelfAt s (entryOf k a)).probeAt = some t → s.now < t) → u = s)
      ∧ (s.part = .running → x.activity = .idle → x.cadenceDue = true →
          linkState u.lamps k = { x with
            activity := .cadence (sealFrame [0x37f, BitVec.ofNat 16 s.lamps.phase]), cadenceDue := false }
          ∧ others fun _ => True)
      ∧ (∀ a, s.part = .running → x.activity = .idle → x.cadenceDue = false → nextDirty s.lamps k = some a →
          let sh := shelfAt s (entryOf k a)
          let n := (sh.sequence + 1) % 16
          shelfAt u (entryOf k a) = { sh with sequence := n }
          ∧ moved = { x with
              dirty := [], cursor := a
              activity := .exchange ⟨.lampSet, a, n, some sh.composed,
                sealFrame ([BitVec.ofNat 16 (256 + a), BitVec.ofNat 16 n] ++ wordsOf 6 (packModes sh.composed.toList)),
                .sending, false⟩ }
          ∧ others fun e => e ≠ entryOf k a)
      ∧ (∀ a t, s.part = .running → x.activity = .idle → x.cadenceDue = false → nextDirty s.lamps k = none → a < 96 →
          (shelfAt s (entryOf k a)).probeAt = some t → t ≤ s.now →
          (∀ b t', b < a → (shelfAt s (entryOf k b)).probeAt = some t' → s.now < t') →
          shelfAt u (entryOf k a) = { shelfAt s (entryOf k a) with probeAt := none }
          ∧ moved = { x with
              dirty := []
              activity := .exchange ⟨.probe, a, 0, none, sealFrame [BitVec.ofNat 16 (512 + a)], .sending, false⟩ }
          ∧ others fun e => e ≠ entryOf k a))
  ∧ (∀ (words : List FrameWord) (image : Image) (i j : Nat),
      (∃ check, sealFrame words = words ++ [check] ∧ (words ++ [check]).foldr (· + ·) 0 = 0)
      ∧ (wordsOf 6 (packModes image.toList)).length = 6
      ∧ (∀ k : Fin 48, ∃ w, (wordsOf 6 (packModes image.toList))[k.val / 8]? = some w
          ∧ w.toNat / 4 ^ (k.val % 8) % 4 = modeCode image[k])
      ∧ (frameBits words).length = 16 * words.length
      ∧ (j < 16 → (frameBits words)[16 * i + j]? = words[i]?.map (·.getLsbD j)))
  ∧ (∀ (k : Link) (s : State),
      ((linkState s.lamps k).activity = .idle → linkBits k s = [])
      ∧ (∀ words, (linkState s.lamps k).activity = .cadence words → linkBits k s = frameBits words)
      ∧ (∀ x, (linkState s.lamps k).activity = .exchange x →
          linkBits k s = if x.timer = .sending then frameBits x.words else []))
  ∧ ∀ (l : Lamps) (k : Link),
      let c := (linkState l k).cursor
      let wanted := fun a : Nat =>
        a < 96 ∧ a ∈ (linkState l k).dirty ∧ (shelfOf l (entryOf k a)).link = .online
      (∀ a, nextDirty l k = some a ↔ wanted a
        ∧ ((c < a ∧ ∀ b, c < b → b < a → ¬ wanted b)
          ∨ (a ≤ c ∧ (∀ b, c < b → ¬ wanted b) ∧ ∀ b, b < a → ¬ wanted b)))
      ∧ (nextDirty l k = none ↔ ∀ a, ¬ wanted a)

/-- A probe moment reached lets the clock stand at it (log 5) and the part come to rest, where a free link chooses; the end
of a CADENCE frees its link; the end of an exchange's frame starts its reply timeout, and the first word of a reply
suspends it with the cycles left (log 34). -/
def Obligations.FramesEndAndTimersRun : Prop :=
  ∀ (k : Link) (e : Nat) (s : State),
    (∀ t, (shelfAt s e).probeAt = some t →
      exec (.probeMomentReached e) s = .next (settle { s with now := max s.now t }))
    ∧ (∀ ws, (linkState s.lamps k).activity = .cadence ws → ∃ u, exec (.frameEnd k) s = .next (settle u)
        ∧ u = { s with lamps := u.lamps } ∧ linkState u.lamps k = { linkState s.lamps k with activity := .idle }
        ∧ u.lamps.shelves = s.lamps.shelves ∧ ∀ i, i ≠ k → linkState u.lamps i = linkState s.lamps i)
    ∧ (∀ x, (linkState s.lamps k).activity = .exchange x → x.timer = .sending →
        ∃ u, exec (.frameEnd k) s = .next (settle u)
        ∧ u = { s with lamps := u.lamps } ∧ linkState u.lamps k = { linkState s.lamps k with
            activity := .exchange { x with
              timer := .waiting (s.now + (32768 * s.control.header.replyTimeout + 999999) / 1000000) } }
        ∧ u.lamps.shelves = s.lamps.shelves ∧ ∀ i, i ≠ k → linkState u.lamps i = linkState s.lamps i)
    ∧ (∀ x t, (linkState s.lamps k).activity = .exchange x → x.timer = .waiting t →
        ∃ u, exec (.replyFirstWord k) s = .next (settle u)
        ∧ u = { s with lamps := u.lamps } ∧ linkState u.lamps k = { linkState s.lamps k with
            activity := .exchange { x with timer := .suspended (t - s.now) } }
        ∧ u.lamps.shelves = s.lamps.shelves ∧ ∀ i, i ≠ k → linkState u.lamps i = linkState s.lamps i)

/-- The applied-image checksum is the sum of mode code times lamp number plus one, modulo 65,536. A good reply that
answers an exchange, its words formed from the bits that arrived: a PROBING or LOST shelf becomes ONLINE with its last-sent image unknown and
SHELF_ONLINE is made; an ONLINE shelf that answers a LAMP_SET with the checksum of the image it carried has that image as
last sent; then the watch is judged, the link is freed. No other entry changes, and nothing outside the lamps' half. -/
def Obligations.GoodReplyConfirmsTheShelf : Prop :=
  (∀ image : Image,
      checksum image = ((List.finRange 48).map fun k => modeCode image[k] * (k.val + 1)).sum % 65536)
  ∧ ∀ (k : Link) (bits : List Bool) (x : Exchange) (r : Reply) (s : State), s.part = .running →
    (linkState s.lamps k).activity = .exchange x → x.timer ≠ .sending → x.orphaned = false → x.addr < 96 →
    readReply (framed bits) = some r → r.addr = x.addr → r.echo = x.sequence →
    let e := entryOf k x.addr
    let sh := shelfAt s e
    let later := some (s.now + 32768 * s.control.header.probeInterval)
    let idle := fun v => setActivity k .idle (judgeWatch e r v)
    (sh.link ≠ .online → ∃ u, exec (.replyReceived k bits) s = .next (settle (idle
        (makeReport (.shelfOnline r.powerLow sh.link) none none (some e) none u)))
      ∧ shelfAt u e = { sh with
          link := .online, misses := 0, lastSent := none, invalidated := false, powerLow := r.powerLow,
          probeAt := later }
      ∧ u = { s with lamps := u.lamps } ∧ OnlyShelfChanges e s u)
    ∧ (∀ image, sh.link = .online → x.kind = .lampSet → x.image = some image → r.checksum = checksum image →
      ∃ u, exec (.replyReceived k bits) s = .next (settle (idle u))
      ∧ shelfAt u e = { sh with
          misses := 0, powerLow := r.powerLow, probeAt := later, invalidated := false,
          lastSent := if sh.invalidated then none else some image }
      ∧ u = { s with lamps := u.lamps } ∧ OnlyShelfChanges e s u)

/-- The words that a reply's bits form, each least significant bit first (a run of bits that ends within a word forms
none, and is a check error, log 41); what the part reads of them; and the replies that bring no shelf ONLINE and confirm no LAMP_SET. A reply that
answers another address or echoes another sequence is discarded, and a timeout it suspended resumes with the cycles left
(log 34); a reply on a link where none is awaited is discarded. A check error halts the shelf or counts as a miss, as its
entry says. A checksum that differs from the expected one makes the last-sent image unknown with SHELF_IMAGE_MISMATCH; a
PROBE of an ONLINE shelf confirms its last-sent image, or nothing when that is unknown. The reply to an orphaned exchange
only clears the invalidated flag. -/
def Obligations.OtherRepliesAreJudged : Prop :=
  (∀ bits : List Bool, (bits.length % 16 = 0 → frameBits (framed bits) = bits)
      ∧ (bits.length % 16 ≠ 0 → framed bits = []))
  ∧ (∀ (ws : List FrameWord) (r : Reply), readReply ws = some r ↔ ∃ w0 w1 w2 w3 w4 w5 w6 w7 : FrameWord,
      ws = [w0, w1, w2, w3, w4, w5, w6, w7] ∧ w0.toNat / 256 = 4
      ∧ w0 + w1 + w2 + w3 + w4 + w5 + w6 + w7 = 0
      ∧ r = ⟨w0.toNat % 256, w1.toNat, w2.getLsbD 0, w5 ++ w4 ++ w3, w6.toNat⟩)
  ∧ (∀ (k : Link) (bits : List Bool) (s : State),
      (s.part ≠ .running ∨ ∀ x, (linkState s.lamps k).activity = .exchange x → x.timer = .sending) →
      exec (.replyReceived k bits) s = .next (settle s))
  ∧ ∀ (k : Link) (bits : List Bool) (x : Exchange) (s : State), s.part = .running →
    (linkState s.lamps k).activity = .exchange x → x.timer ≠ .sending → x.addr < 96 →
    let e := entryOf k x.addr
    let sh := shelfAt s e
    let later := some (s.now + 32768 * s.control.header.probeInterval)
    let freed := setActivity k .idle
    let others := fun u : State => u = { s with lamps := u.lamps } ∧ OnlyShelfChanges e s u
    (readReply (framed bits) = none → x.orphaned = false → sh.haltOnCheck = false →
      ∃ u, exec (.replyReceived k bits) s = .next (settle (freed
          (if 3 ≤ sh.misses + 1 ∧ sh.link ≠ .lost
            then makeReport (.shelfLost sh.powerLow sh.link) none none (some e) none u else u)))
        ∧ others u
        ∧ shelfAt u e = { sh with
            invalidated := false
            lastSent := if sh.invalidated then none else sh.lastSent
            misses := min 3 (sh.misses + 1)
            probeAt := later
            link := if 3 ≤ sh.misses + 1 ∧ sh.link ≠ .lost then .lost else sh.link })
    ∧ (readReply (framed bits) = none → x.orphaned = false → sh.haltOnCheck = true →
      ∃ u, exec (.replyReceived k bits) s = .next (settle (freed
          (makeReport (.shelfHalted sh.powerLow .checkError) none none (some e) none u)))
        ∧ others u
        ∧ shelfAt u e = { sh with
            invalidated := false
            lastSent := if sh.invalidated then none else sh.lastSent
            link := .halted
            probeAt := none })
    ∧ (∀ r, readReply (framed bits) = some r → r.addr ≠ x.addr ∨ r.echo ≠ x.sequence →
      ∃ u, exec (.replyReceived k bits) s = .next (settle u) ∧ u = { s with lamps := u.lamps }
        ∧ linkState u.lamps k = { linkState s.lamps k with activity := .exchange { x with
            timer := match x.timer with | .suspended left => .waiting (s.now + left) | t => t } }
        ∧ u.lamps.shelves = s.lamps.shelves ∧ ∀ i, i ≠ k → linkState u.lamps i = linkState s.lamps i)
    ∧ (x.orphaned = true →
      (readReply (framed bits) = none ∨ ∃ r, readReply (framed bits) = some r ∧ r.addr = x.addr ∧ r.echo = x.sequence) →
      ∃ u, exec (.replyReceived k bits) s = .next (settle (freed u)) ∧ others u
        ∧ shelfAt u e = { sh with invalidated := false })
    ∧ ∀ r, readReply (framed bits) = some r → r.addr = x.addr → r.echo = x.sequence → x.orphaned = false → sh.link = .online →
      (∀ image, (x.kind = .lampSet ∧ x.image = some image) ∨ (x.kind = .probe ∧ sh.lastSent = some image) →
        r.checksum ≠ checksum image →
        ∃ u, exec (.replyReceived k bits) s = .next (settle (freed (judgeWatch e r
            (makeReport (.shelfImageMismatch r.powerLow x.kind (checksum image) r.checksum) none none (some e) none u))))
          ∧ others u
          ∧ shelfAt u e = { sh with
              misses := 0, powerLow := r.powerLow, probeAt := later, lastSent := none, invalidated := false })
      ∧ (x.kind = .probe → (∀ image, sh.lastSent = some image → r.checksum = checksum image) →
        ∃ u, exec (.replyReceived k bits) s = .next (settle (freed (judgeWatch e r u))) ∧ others u
          ∧ shelfAt u e = { sh with misses := 0, powerLow := r.powerLow, probeAt := later, invalidated := false })

/-- The watch after a good reply: no watched lamp with the sense's fault flag clears the watch flag; a first match sets it
and makes SHELF_WATCH with the lowest lamp and their number, and halts the shelf if the entry says so; a match while the
flag is set does nothing. No other entry changes, and nothing else of the part but the reports. -/
def Obligations.WatchMatchIsReportedOnce : Prop :=
  ∀ (e : Nat) (r : Reply) (s : State), e < 192 →
    let sh := shelfAt s e
    let lamps := (List.range 48).filter fun k => sh.watchMask.getLsbD k && r.faults.getLsbD k == sh.watchFault
    let u := judgeWatch e r s
    u = { s with lamps := u.lamps, reports := u.reports } ∧ OnlyShelfChanges e s u
    ∧ (lamps = [] → shelfAt (judgeWatch e r s) e = { sh with watchMatch := false }
      ∧ (judgeWatch e r s).reports = s.reports)
    ∧ (lamps ≠ [] → sh.watchMatch = true → judgeWatch e r s = s)
    ∧ (∀ lamp others, lamps = lamp :: others → sh.watchMatch = false → sh.haltOnMatch = false →
      shelfAt (judgeWatch e r s) e = { sh with watchMatch := true }
      ∧ (judgeWatch e r s).reports =
        (makeReport (.shelfWatch sh.powerLow lamp (others.length + 1)) none none (some e) none s).reports)
    ∧ (∀ lamp others, lamps = lamp :: others → sh.watchMatch = false → sh.haltOnMatch = true →
      shelfAt (judgeWatch e r s) e = { sh with watchMatch := true, link := .halted, probeAt := none }
      ∧ (judgeWatch e r s).reports =
        (makeReport (.shelfHalted sh.powerLow .watch) none none (some e) none
          (makeReport (.shelfWatch sh.powerLow lamp (others.length + 1)) none none (some e) none s)).reports)

/-- A reply timeout that runs out is a miss: the count rises, held at 3, the shelf is probed one interval later, the third
miss makes a shelf that is not yet LOST LOST with SHELF_LOST, and the link is freed; the miss of an orphaned exchange
only clears the invalidated flag. The clock stands at the deadline (log 5); no other entry changes, and nothing else
outside the lamps' half. -/
def Obligations.TimeoutIsAMiss : Prop :=
  ∀ (k : Link) (x : Exchange) (t : Nat) (s : State), s.part = .running →
    (linkState s.lamps k).activity = .exchange x → x.timer = .waiting t → x.addr < 96 →
    let e := entryOf k x.addr
    let sh := shelfAt s e
    (x.orphaned = true → ∃ u, exec (.replyTimeout k) s = .next (settle (setActivity k .idle u))
      ∧ shelfAt u e = { sh with invalidated := false }
      ∧ u = { s with now := max s.now t, lamps := u.lamps } ∧ OnlyShelfChanges e s u)
    ∧ (x.orphaned = false → ∃ u, exec (.replyTimeout k) s = .next (settle (setActivity k .idle
        (if 3 ≤ sh.misses + 1 ∧ sh.link ≠ .lost
          then makeReport (.shelfLost sh.powerLow sh.link) none none (some e) none u else u)))
      ∧ shelfAt u e = { sh with
          invalidated := false
          lastSent := if sh.invalidated then none else sh.lastSent
          misses := min 3 (sh.misses + 1)
          probeAt := some (max s.now t + 32768 * s.control.header.probeInterval)
          link := if 3 ≤ sh.misses + 1 ∧ sh.link ≠ .lost then .lost else sh.link }
      ∧ u = { s with now := max s.now t, lamps := u.lamps } ∧ OnlyShelfChanges e s u)

/-! ### Part states and PRUN -/

/-- RESET asserted: the part is in RESET, every shadow, table, context, latch, pending set and link record empty
(`ShadowsEmpty`, whose values are log 7's), the loader's and report writes in the queue drain for nobody, the queue keeps
its entries, the response order its responses and the port its arrivals; calendar, cadence, latch, indexes and reports
start afresh; the set-aside counts stay (log 30), and so does the strap level last sampled (log 7). RESET released starts a
load with the straps sampled (an operand of the command, log 24); given while the part is not in RESET it has no effect,
the model's choice (log 3). -/
def Obligations.ResetAssertedAndReleased : Prop :=
  ∀ (straps : BitVec 4) (s : State),
    (∃ u, exec .resetAsserted s = .next (settle u)
      ∧ u.part = .reset ∧ ShadowsEmpty u
      ∧ u.transit = { s.transit with regions := [], turn := .upstream, queue := u.transit.queue }
      ∧ u.transit.queue.map (fun e => (e.kind, e.addr, e.words, e.lanes))
          = s.transit.queue.map (fun e => (e.kind, e.addr, e.words, e.lanes))
      ∧ (∀ e ∈ u.transit.queue, e.origin ≠ .report ∧ e.origin ≠ .loadWrite ∧ ∀ i, e.origin ≠ .loadRead i)
      ∧ u.calendar = ⟨0, 0, 0, 0, false⟩ ∧ u.lamps.phase = 0 ∧ u.lamps.cycles = 0
      ∧ u.reports = ⟨0, 0, [], none, false, none, none⟩ ∧ u.loader = none ∧ u.failing = none ∧ u.restartTag = none
      ∧ u.counts = s.counts ∧ u.prun = s.prun ∧ u.straps = s.straps ∧ u.now = s.now ∧ u.pending = s.pending)
    ∧ (s.part = .reset → ∃ u, exec (.resetReleased straps) s = .next (settle u)
      ∧ u.part = .loading ∧ ShadowsEmpty u
      ∧ u.transit = { s.transit with regions := [], ctlSel := straps, turn := .upstream }
      ∧ u.counts = ⟨0, 0, 0⟩ ∧ u.calendar = s.calendar ∧ u.lamps.phase = s.lamps.phase ∧ u.lamps.cycles = s.lamps.cycles
      ∧ u.reports = { s.reports with held := [] } ∧ u.loader = some ⟨0, 0, [], 0, []⟩ ∧ u.failing = none
      ∧ u.restartTag = s.restartTag ∧ u.prun = s.prun ∧ u.straps = straps ∧ u.now = s.now ∧ u.pending = s.pending)
    ∧ (s.part ≠ .reset → exec (.resetReleased straps) s = .next (settle s))

/-- A load whose every read and write has been answered, and with no report write in flight (log 21), ends: the part is
RUNNING, what was loaded stays as loaded, with counts, queues, flags, modes and images derived and every configured shelf
PROBING, reports still held from LOADING are dropped (log 44), the ring starts at the consumer index loaded with the
dropped flag clear, a RESTART's COMMAND_DONE is made, then LOAD_DONE with the set-aside counts, then PROC_STOPPED when PRUN
is low; LOAD_DONE given before has no effect, the model's choice (log 3). A load that fails, by its version, its map or a
MEMFAULT: an empty error latch takes LOAD_FAILED, every shadow and table is emptied (`ShadowsEmpty`, whose values are
log 7's), its reads and writes in the queue drain for nobody. The part settles in FAILED when none is left and is LOADING
until then (log 37); reports still held are dropped (log 44), and LOAD_FAILED is then made where the ring's base is known,
else the dropped flag is set. -/
def Obligations.LoadEndsRunningOrFailed : Prop :=
  (∀ s : State,
      (loadComplete s = false → exec .loadDone s = .next (settle s))
      ∧ (loadComplete s = true → ∀ l, s.loader = some l → ∃ u,
        exec .loadDone s = .next (settle
          (let done := match s.restartTag with
            | some tag => makeReport (.commandDone 1 .accepted 0) none none none (some tag) u
            | none => u
          let loaded := makeReport (.loadDone s.counts.tables s.counts.boxes s.counts.slots) none none none none done
          if s.prun then loaded
          else makeReport (.procStopped s.control.header.dark) none none none none loaded))
        ∧ u = { s with
            part := .running, transit := { s.transit with turn := .upstream }, boxes := u.boxes, lamps := u.lamps
            reports := ⟨l.consumer, l.consumer, [], s.reports.writing, false, s.reports.latch,
              some (regionBase s .report)⟩
            restartTag := none, loader := none }
        ∧ (∀ m, plainFields (boxAt u m) = plainFields (boxAt s m))
        ∧ u.lamps.phase = s.lamps.phase ∧ u.lamps.cycles = s.lamps.cycles
        ∧ (∀ k, { linkState u.lamps k with dirty := [] } = { linkState s.lamps k with dirty := [] })
        ∧ (∀ e, e < 192 → ∃ mapped composed, shelfAt u e = { shelfAt s e with
            mapped := mapped, composed := composed, lastSent := none
            link := if (shelfAt s e).configured then .probing else .unconfigured
            probeAt := if (shelfAt s e).configured then some s.now else none })))
  ∧ (∀ s : State, loadComplete s = true ↔ s.part = .loading ∧ s.reports.writing = none
      ∧ (∀ e ∈ s.transit.queue, e.origin ≠ .loadWrite ∧ ∀ i, e.origin ≠ .loadRead i)
      ∧ ∃ l, s.loader = some l ∧ l.judged = 20559 ∧ l.writes = [])
  ∧ (∀ (e : Entry) (rest : List Entry) (m : MemAnswer) (s : State), s.part = .loading → m.fault = true →
      s.transit.queue = e :: rest → (e.origin = .loadWrite ∨ ∃ i, e.origin = .loadRead i) →
      exec (.memoryAnswer m) s = .next (settle (settleFailure
        (failLoad (.memFault e.addr) { s with transit := { s.transit with queue := rest } }))))
  ∧ (∀ (cause : LoadFailure) (s : State), s.part = .loading → ∀ u, u = failLoad cause s →
      u.part = .loading ∧ u.loader = none ∧ u.restartTag = none ∧ u.failing = some cause ∧ ShadowsEmpty u
      ∧ u.transit = { s.transit with regions := [], queue := u.transit.queue }
      ∧ u.transit.queue.map (fun e => (e.kind, e.addr, e.words, e.lanes))
          = s.transit.queue.map (fun e => (e.kind, e.addr, e.words, e.lanes))
      ∧ (∀ x ∈ u.transit.queue, x.origin ≠ .loadWrite ∧ ∀ i, x.origin ≠ .loadRead i)
      ∧ ((∃ x ∈ u.transit.queue, x.origin = .drained) ↔
          ∃ x ∈ s.transit.queue, x.origin = .drained ∨ x.origin = .loadWrite ∨ ∃ i, x.origin = .loadRead i)
      ∧ u.calendar = s.calendar ∧ u.lamps.phase = s.lamps.phase ∧ u.lamps.cycles = s.lamps.cycles
      ∧ u.counts = s.counts ∧ u.prun = s.prun ∧ u.straps = s.straps ∧ u.now = s.now ∧ u.pending = s.pending
      ∧ u.reports = { s.reports with latch := (match s.reports.latch with
          | some x => some x
          | none => some ⟨.loadFailed cause, none, none, none⟩) })
  ∧ (∀ (cause : LoadFailure) (s : State),
      (s.failing = none → settleFailure s = s)
      ∧ (s.failing = some cause → (∃ x ∈ s.transit.queue, x.origin = .drained) → settleFailure s = s)
      ∧ (s.failing = some cause → (∀ x ∈ s.transit.queue, x.origin ≠ .drained) →
        ∃ u, (s.reports.base = none → settleFailure s = { u with reports := { s.reports with held := [], dropped := true } })
        ∧ (s.reports.base ≠ none → settleFailure s = makeReport (.loadFailed cause) none none none none u)
        ∧ u.part = .failed ∧ u.failing = none ∧ u.loader = s.loader ∧ u.restartTag = s.restartTag ∧ ShadowsEmpty u
        ∧ u.transit = { s.transit with regions := [], turn := .upstream }
        ∧ u.calendar = s.calendar ∧ u.lamps.phase = s.lamps.phase ∧ u.lamps.cycles = s.lamps.cycles
        ∧ u.counts = s.counts ∧ u.reports = { s.reports with held := [] } ∧ u.prun = s.prun ∧ u.straps = s.straps
        ∧ u.now = s.now ∧ u.pending = s.pending))

/-- The first step of a load: the lines read, the version judged, then the header values, each out of range replaced as
its rule gives it and the header counted once, then the map by its six checks in order, the first failure of which fails
the load with its entry (which kind a count failure names is log 36; the order within the step is log 26), then the
consumer index, loaded as 0, repaired and counted when above 255 (data 0 for the bytes that the repair does not enable,
log 27). The second step: each valid table entry is held as read, each invalid one set aside with its defaults and
counted. R198 has whole lines read, and a directory's in ascending order; that the first step is five lines in ascending
address and the tables follow in ascending address is the model's choice (log 18). -/
def Obligations.LoaderJudgesAreaAndTables : Prop :=
  (∀ (i : Nat) (data : List Byte) (l : Loader) (s : State), s.loader = some l →
      let b := fitBytes 128 data
      let u := { s with loader := some { l with judged := l.judged + 1 } }
      let four := fun (f : Nat → List Byte → State → State) (first size : Nat) =>
        f (first + 3) ((b.drop (3 * size)).take size) (f (first + 2) ((b.drop (2 * size)).take size)
          (f (first + 1) ((b.drop size).take size) (f first (b.take size) u)))
      let two := fun (f : Nat → List Byte → State → State) (first : Nat) =>
        f (first + 1) ((b.drop 64).take 64) (f first (b.take 64) u)
      (i < 4 → loaderAnswered i data s
          = { s with loader := some { l with judged := l.judged + 1, lines := l.lines ++ b } })
      ∧ (i = 4 → loaderAnswered i data s = loadStepOne (l.lines ++ b)
          { s with loader := some { l with judged := l.judged + 1, lines := [] } })
      ∧ (5 ≤ i → i < 9 → loaderAnswered i data s = two loadClass (2 * (i - 5)))
      ∧ (i = 9 → loaderAnswered i data s = four loadCalibration 0 16)
      ∧ (i = 10 → loaderAnswered i data s = loadBreaks b u)
      ∧ (11 ≤ i → i < 27 → loaderAnswered i data s = four loadSchedule (4 * (i - 11)) 32)
      ∧ (27 ≤ i → i < 31 → loaderAnswered i data s = four loadBroadcast (4 * (i - 27)) 32)
      ∧ (31 ≤ i → i < 79 → loaderAnswered i data s = four loadShelf (4 * (i - 31)) 32)
      ∧ (79 ≤ i → i < 4175 → loaderAnswered i data s = two loadBox (2 * (i - 79)))
      ∧ (4175 ≤ i → loaderAnswered i data s = four loadSlot (4 * (i - 4175)) 32))
  ∧ (∀ (i : Nat) (s : State),
      ((List.range 31).map (loadAddr s) = [0, 0x80, 0x100, 0x200, 0x280, 0x400, 0x480, 0x500, 0x580, 0x600, 0x700, 0x800,
          0x880, 0x900, 0x980, 0xa00, 0xa80, 0xb00, 0xb80, 0xc00, 0xc80, 0xd00, 0xd80, 0xe00, 0xe80, 0xf00, 0xf80, 0x1000,
          0x1080, 0x1100, 0x1180].map (controlBase s + ·))
      ∧ (i < 48 → loadAddr s (31 + i) = controlBase s + 0x2000 + 128 * i)
      ∧ (i < 4096 → loadAddr s (79 + i) = regionBase s .mailboxDir + 128 * i)
      ∧ loadAddr s (4175 + i) = regionBase s .slotDir + 128 * i)
  ∧ (∀ (b : List Byte) (s : State),
      let replaced := 6 < byteOf b 2 ∨ 1 < byteOf b 3 ∨ (1439 < fieldOf b 4 2 ∧ fieldOf b 4 2 ≠ 65535)
        ∨ byteOf b 6 < 1 ∨ 30 < byteOf b 6 ∨ byteOf b 7 < 1 ∨ 60 < byteOf b 7 ∨ fieldOf b 8 2 < 200 ∨ 5000 < fieldOf b 8 2
      loadHeader b s = { s with
        control := { s.control with header := {
          weekday := if byteOf b 2 ≤ 6 then byteOf b 2 else 0
          sweepMinute := if fieldOf b 4 2 ≤ 1439 then some (fieldOf b 4 2) else none
          dark := byteOf b 3 == 1
          latchIdle := if 1 ≤ byteOf b 6 ∧ byteOf b 6 ≤ 30 then byteOf b 6 else 10
          probeInterval := if 1 ≤ byteOf b 7 ∧ byteOf b 7 ≤ 60 then byteOf b 7 else 5
          replyTimeout := if 200 ≤ fieldOf b 8 2 ∧ fieldOf b 8 2 ≤ 5000 then fieldOf b 8 2 else 1000 } }
        counts := { s.counts with tables := s.counts.tables + (if replaced then 1 else 0) } })
  ∧ (∀ (b : List Byte) (l : Loader) (s : State), s.loader = some l →
      let kind := fun i : Nat => byteOf b (384 + 16 * i + 14)
      let base := fun i : Nat => fieldOf b (384 + 16 * i) 8
      let size := fun i : Nat => fieldOf b (384 + 16 * i + 8) 6
      let used := fun i : Nat => 1 ≤ kind i ∧ kind i ≤ 6
      let shares := fun (i other extent : Nat) => base i < other + extent ∧ other < base i + size i
      let fails : MapCheck → Nat → Prop := fun c i => i < 12 ∧ match c with
        | .kind => 6 < kind i
        | .align => used i ∧ (base i % 65536 ≠ 0 ∨ size i % 65536 ≠ 0 ∨ size i = 0)
        | .bound => used i ∧ 68719476736 < base i + size i
        | .size => (kind i = 1 ∧ size i ≠ 524288) ∨ (kind i = 2 ∧ size i ≠ 2097152)
            ∨ (kind i = 5 ∧ size i ≠ 8589934592) ∨ (kind i = 6 ∧ size i ≠ 65536)
        | .count => False
        | .overlap => used i ∧ (shares i (controlBase s) 65536
            ∨ ∃ j, i < j ∧ j < 12 ∧ used j ∧ shares i (base j) (size j))
      let firstFails := fun (c : MapCheck) (i : Nat) => fails c i ∧ ∀ h, h < i → ¬ fails c h
      let passes := fun c : MapCheck => ∀ i, ¬ fails c i
      let number := fun k : Nat => (List.range 12).countP (fun i => kind i == k)
      let allowed := fun k : Nat => if k = 3 ∨ k = 4 then 1 ≤ number k ∧ number k ≤ 4 else number k = 1
      let shaped := passes .kind ∧ passes .align ∧ passes .bound ∧ passes .size
      let failed := fun (entry : Option Nat) (c : MapCheck) => loadStepOne b s = failLoad (.map entry c) (loadHeader b s)
      (fieldOf b 0 2 ≠ 3 → loadStepOne b s = failLoad (.version (fieldOf b 0 2)) s)
      ∧ (fieldOf b 0 2 = 3 →
        (∀ i, firstFails .kind i → failed (some i) .kind)
        ∧ (∀ i, passes .kind → firstFails .align i → failed (some i) .align)
        ∧ (∀ i, passes .kind → passes .align → firstFails .bound i → failed (some i) .bound)
        ∧ (∀ i, passes .kind → passes .align → passes .bound → firstFails .size i → failed (some i) .size)
        ∧ (∀ k, shaped → 1 ≤ k → k ≤ 6 → ¬ allowed k → (∀ h, 1 ≤ h → h < k → allowed h) →
            (∀ i, i < 12 → kind i = k → (∀ h, h < i → kind h ≠ k) → failed (some i) .count)
            ∧ (number k = 0 → failed none .count))
        ∧ (∀ i, shaped → (∀ k, 1 ≤ k → k ≤ 6 → allowed k) → firstFails .overlap i → failed (some i) .overlap)
        ∧ (shaped → (∀ k, 1 ≤ k → k ≤ 6 → allowed k) → passes .overlap →
            ∃ regions : List Region,
            (∀ a n kd, (⟨kd, a, n⟩ : Region) ∈ regions ↔ ∃ i, i < 12 ∧ base i = a ∧ size i = n ∧ kind i = (match kd with
              | .mailboxDir => 1 | .slotDir => 2 | .audio => 3 | .greeting => 4 | .aliasWindow => 5 | .report => 6))
            ∧ ∀ u, u = ({ loadHeader b s with transit := { s.transit with regions := regions } } : State) →
              (fieldOf b 192 2 ≤ 255 →
                loadStepOne b s = { u with loader := some { l with consumer := fieldOf b 192 2 } })
              ∧ (255 < fieldOf b 192 2 → loadStepOne b s = { u with
                  counts := { u.counts with tables := u.counts.tables + 1 }
                  loader := some { l with consumer := 0, writes := l.writes ++ [[⟨.write, controlBase s + 0xc0, 1,
                    [⟨true, 0⟩, ⟨true, 0⟩, dead, dead, dead, dead, dead, dead], .loadWrite⟩]] } }))))
  ∧ ∀ (b : List Byte) (i : Nat) (s : State),
      let counted := fun u : State => { u with counts := { u.counts with tables := u.counts.tables + 1 } }
      let held := fun (good : Prop) (f : Bool → State) (t : State) =>
        (good → t = f true) ∧ (¬ good → t = counted (f false))
      held (checkClass s.transit.regions b = none) (fun good => { s with control := { s.control with
          classes := s.control.classes.setIfInBounds i (if good then readClass b else
            ⟨0, 0, 0, 1024, 30, false, .fast, .steady, .off, 0, ⟨0, 0⟩, ⟨0, 0⟩, ⟨0, 0⟩⟩) } }) (loadClass i b s)
      ∧ held (checkCalibration b = none) (fun good => { s with deposit := { s.deposit with
          calibration := s.deposit.calibration.setIfInBounds i (if good then readCalibration b else ⟨0, 256, 0⟩) } })
          (loadCalibration i b s)
      ∧ held (checkBreaks b = none) (fun good => { s with greetings := { s.greetings with
          breaks := if good then readBreaks b else [] } }) (loadBreaks b s)
      ∧ held (checkSchedule b = none) (fun good => { s with greetings := { s.greetings with
          schedules := s.greetings.schedules.setIfInBounds i (if good then readSchedule b else []) } }) (loadSchedule i b s)
      ∧ held (checkBroadcast b = none) (fun good => { s with
          broadcasts := s.broadcasts.setIfInBounds i (if good then readBroadcast b else ⟨false, false, 0, 0, false, none, []⟩) }) (loadBroadcast i b s)
      ∧ held (checkShelf b = none) (fun good => { s with lamps := { s.lamps with
          shelves := s.lamps.shelves.setIfInBounds i (if good then readShelf b else Shelf.empty) } }) (loadShelf i b s)

/-- The third and fourth steps of a load. A mailbox record that passes every value check enters as read; one with failed
fields enters as UNASSIGNED with their defaults, is counted, and its status and failed fields are repaired (the
first-block and day bytes of a default are free values, log 13); one whose lamp position is held already loses its lamp
field, which is repaired, and is counted, once in all (two repair writes where both happen, log 19). A slot record with a
bad code, owner, source or urgent value, or an UNASSIGNED owner while not FREE, enters FREE, is repaired and counted; a
valid RECORDING one becomes DISCARDED with verdict LOAD, its expiry absent (with the day bytes read as what it holds,
log 14), with a stamp write and a state write; another enters as read; the stamped fields are held in their ranges. The
bytes that a repair or state write does not enable carry data 0 (log 27). -/
def Obligations.LoaderJudgesDirectoryRecords : Prop :=
  (∀ (regions : List Region) (b : List Byte),
      (.status ∈ boxFaults regions b ↔ 2 < byteOf b 0) ∧ (.cls ∈ boxFaults regions b ↔ 7 < byteOf b 1)
      ∧ (.capacity ∈ boxFaults regions b ↔ byteOf b 2 = 0)
      ∧ (.schedule ∈ boxFaults regions b ↔ 63 < byteOf b 3 ∧ byteOf b 3 ≠ 255)
      ∧ (.lamp ∈ boxFaults regions b ↔ fieldOf b 4 2 ≠ 65535 ∧ (191 < byteOf b 4 ∨ 47 < byteOf b 5))
      ∧ (.extension ∈ boxFaults regions b ↔ 999999 < fieldOf b 8 4)
      ∧ (.absenceUntil ∈ boxFaults regions b ↔ 1439 < fieldOf b 14 2 ∧ fieldOf b 14 2 ≠ 65535)
      ∧ (.primary ∈ boxFaults regions b ↔ locatorGood regions ⟨fieldOf b 16 3, byteOf b 19⟩ = false)
      ∧ (.afterHours ∈ boxFaults regions b ↔ locatorGood regions ⟨fieldOf b 20 3, byteOf b 23⟩ = false)
      ∧ (.onBreak ∈ boxFaults regions b ↔ locatorGood regions ⟨fieldOf b 24 3, byteOf b 27⟩ = false)
      ∧ (.absence ∈ boxFaults regions b ↔ locatorGood regions ⟨fieldOf b 28 3, byteOf b 31⟩ = false)
      ∧ FieldName.source ∉ boxFaults regions b ∧ FieldName.audioBlock ∉ boxFaults regions b
      ∧ FieldName.urgent ∉ boxFaults regions b ∧ FieldName.acknowledge ∉ boxFaults regions b)
  ∧ (∀ (m : Nat) (b : List Byte) (l : Loader) (s : State), s.loader = some l →
      let faults := boxFaults s.transit.regions b
      let clash := FieldName.lamp ∉ faults ∧ fieldOf b 4 2 ≠ 65535 ∧ holderAt s (byteOf b 4 * 48 + byteOf b 5) ≠ none
      let t := loadBox m b s
      let r := boxAt t m
      r.status = (if faults ≠ [] then .unassigned else (statusOf (byteOf b 0)).getD .unassigned)
      ∧ r.cls = (if .cls ∈ faults then 0 else byteOf b 1)
      ∧ r.capacity = (if .capacity ∈ faults then 1 else byteOf b 2)
      ∧ r.schedule = (if .schedule ∈ faults then 255 else byteOf b 3)
      ∧ (FieldName.lamp ∈ faults ∨ clash → r.lampShelf = 255 ∧ r.lampNumber = 255)
      ∧ (FieldName.lamp ∉ faults → ¬ clash → r.lampShelf = byteOf b 4 ∧ r.lampNumber = byteOf b 5)
      ∧ r.extension = (if .extension ∈ faults then 0 else fieldOf b 8 4)
      ∧ r.absenceMinute = (if .absenceUntil ∈ faults then 65535 else fieldOf b 14 2)
      ∧ (FieldName.absenceUntil ∉ faults → r.absenceDay = fieldOf b 12 2)
      ∧ (FieldName.primary ∈ faults → r.primary.length = 0)
      ∧ (FieldName.primary ∉ faults → r.primary = ⟨fieldOf b 16 3, byteOf b 19⟩)
      ∧ (FieldName.afterHours ∈ faults → r.afterHours.length = 0)
      ∧ (FieldName.afterHours ∉ faults → r.afterHours = ⟨fieldOf b 20 3, byteOf b 23⟩)
      ∧ (FieldName.onBreak ∈ faults → r.onBreak.length = 0)
      ∧ (FieldName.onBreak ∉ faults → r.onBreak = ⟨fieldOf b 24 3, byteOf b 27⟩)
      ∧ (FieldName.absence ∈ faults → r.absence.length = 0)
      ∧ (FieldName.absence ∉ faults → r.absence = ⟨fieldOf b 28 3, byteOf b 31⟩)
      ∧ (∀ i, i ≠ m → boxAt t i = boxAt s i)
      ∧ (∀ p, holderAt t p = if lampPosition r = some p then some m else holderAt s p)
      ∧ t.counts = { s.counts with boxes := s.counts.boxes + (if faults ≠ [] ∨ clash then 1 else 0) }
      ∧ (∃ kept : MailboxRec, t.loader = some { l with writes := l.writes
            ++ (if faults ≠ [] then [[repairEntry (regionBase s .mailboxDir) m (.status :: faults) kept]] else [])
            ++ (if clash then [[repairEntry (regionBase s .mailboxDir) m [.lamp] r]] else []) }
          ∧ (¬ clash → kept = r)
          ∧ (clash → { kept with lampShelf := 255, lampNumber := 255 } = r))
      ∧ t.slots = s.slots ∧ t.reports = s.reports ∧ t.transit = s.transit)
  ∧ (∀ (base m : Nat) (fields : List FieldName) (b : MailboxRec), fields ≠ [] →
      let places := fun f : FieldName => match f with
        | .status => (0, 1) | .cls => (1, 1) | .capacity => (2, 1) | .schedule => (3, 1) | .lamp => (4, 2)
        | .extension => (8, 4) | .absenceUntil => (12, 4) | .primary => (16, 4) | .afterHours => (20, 4)
        | .onBreak => (24, 4) | .absence => (28, 4) | _ => (0, 0)
      let e := repairEntry base m fields b
      e.kind = .write ∧ e.addr = base + m * 64 ∧ e.origin = .loadWrite ∧ e.lanes.length = 8 * e.words
      ∧ (∀ f ∈ fields, (places f).1 + (places f).2 ≤ 8 * e.words)
      ∧ (∀ n, (∀ f ∈ fields, (places f).1 + (places f).2 ≤ 8 * n) → e.words ≤ n)
      ∧ (∀ k, k < 8 * e.words → e.lanes[k]? = some (if ∃ f ∈ fields, (places f).1 ≤ k ∧ k < (places f).1 + (places f).2
          then ⟨true, BitVec.ofNat 8 (byteOf (boxBytes b) k)⟩ else ⟨false, 0⟩))
      ∧ (boxBytes b).length = 32 ∧ byteOf (boxBytes b) 0 = statusCode b.status ∧ byteOf (boxBytes b) 1 = b.cls % 256
      ∧ byteOf (boxBytes b) 2 = b.capacity % 256 ∧ byteOf (boxBytes b) 3 = b.schedule % 256
      ∧ byteOf (boxBytes b) 4 = b.lampShelf % 256 ∧ byteOf (boxBytes b) 5 = b.lampNumber % 256
      ∧ fieldOf (boxBytes b) 8 4 = b.extension % 4294967296 ∧ fieldOf (boxBytes b) 14 2 = b.absenceMinute % 65536
      ∧ byteOf (boxBytes b) 19 = b.primary.length % 256 ∧ byteOf (boxBytes b) 23 = b.afterHours.length % 256
      ∧ byteOf (boxBytes b) 27 = b.onBreak.length % 256 ∧ byteOf (boxBytes b) 31 = b.absence.length % 256)
  ∧ ∀ (n : Nat) (b : List Byte) (l : Loader) (s : State), s.loader = some l →
      let bad := 6 < byteOf b 2 ∨ 8191 < fieldOf b 0 2 ∨ 3 < byteOf b 4 ∨ 1 < byteOf b 3
        ∨ (byteOf b 2 ≠ 0 ∧ (boxAt s (fieldOf b 0 2)).status = .unassigned)
      let t := loadSlot n b s
      let r := slotAt t n
      let base := regionBase s .slotDir
      r.owner = (if fieldOf b 0 2 ≤ 8191 then fieldOf b 0 2 else 0) ∧ r.urgent = (byteOf b 3 == 1)
      ∧ r.source = (if byteOf b 4 ≤ 3 then byteOf b 4 else 0) ∧ r.firstBlock = fieldOf b 5 3 ∧ r.context = none
      ∧ r.stamp = ⟨fieldOf b 8 2, min 1439 (fieldOf b 10 2), min 59 (byteOf b 12), byteOf b 13 != 0⟩
      ∧ r.level = ⟨min 32767 (fieldOf b 18 2), fieldOf b 20 2, fieldOf b 22 2⟩
      ∧ (bad → r.state = .free) ∧ (¬ bad → byteOf b 2 = 1 → r.state = .discarded)
      ∧ (¬ bad → byteOf b 2 ≠ 1 → slotStateCode r.state = byteOf b 2)
      ∧ (¬ bad → byteOf b 2 = 1 → r.verdict = .load ∧ r.expiry = .absent (some (fieldOf b 14 2)))
      ∧ (bad ∨ byteOf b 2 ≠ 1 → verdictCode r.verdict = (if byteOf b 17 ≤ 4 then byteOf b 17 else 0)
          ∧ r.expiry = if byteOf b 16 = 0 then .absent (some (fieldOf b 14 2)) else .on (fieldOf b 14 2))
      ∧ (∀ i, i ≠ n → slotAt t i = slotAt s i)
      ∧ t.counts = { s.counts with slots := s.counts.slots + (if bad then 1 else 0) }
      ∧ t.loader = some { l with writes := l.writes
          ++ (if bad then [[⟨.write, base + n * 32, 1, [⟨true, BitVec.ofNat 8 r.owner⟩, ⟨true, BitVec.ofNat 8 (r.owner / 256)⟩,
              ⟨true, 0⟩, ⟨true, (if r.urgent then 1 else 0)⟩, ⟨true, BitVec.ofNat 8 r.source⟩, ⟨false, 0⟩, ⟨false, 0⟩,
              ⟨false, 0⟩], .loadWrite⟩]]
            else if byteOf b 2 = 1 then [[⟨.write, base + n * 32 + 8, 2,
                (stampedBytes n s.transit.joined r).map (fun b => ⟨true, b⟩), .loadWrite⟩,
              ⟨.write, base + n * 32, 1, [⟨false, 0⟩, ⟨false, 0⟩, ⟨true, 5⟩, ⟨false, 0⟩, ⟨false, 0⟩, ⟨false, 0⟩,
                ⟨false, 0⟩, ⟨false, 0⟩], .loadWrite⟩]]
            else []) }
      ∧ t.boxes = s.boxes ∧ t.reports = s.reports ∧ t.transit = s.transit

/-- A change of PRUN while RUNNING sets the level, recomposes every entry under DARK, and makes one notice with the
policy; outside RUNNING it sets the level alone; a level that does not change does nothing. -/
def Obligations.PrunChangeRecomposesAndReports : Prop :=
  ∀ (high : Bool) (c : Instr) (s : State),
    (c = .prunChangeNotRunning high ∨ (c = .procRunning ∧ high = true) ∨ (c = .procStopped ∧ high = false)) →
    (s.prun = high → exec c s = .next (settle s))
    ∧ (s.prun ≠ high → s.part ≠ .running → exec c s = .next (settle { s with prun := high }))
    ∧ (s.prun ≠ high → s.part = .running → ∃ u,
      exec c s = .next (settle (makeReport
        (if high then .procRunning s.control.header.dark else .procStopped s.control.header.dark)
        none none none none u))
      ∧ u = { s with prun := high, lamps := u.lamps }
      ∧ (s.control.header.dark = false → u.lamps = s.lamps)
      ∧ (∀ e, ∃ image : Image, shelfAt u e = { shelfAt s e with composed := image }
        ∧ (s.control.header.dark = true → e < 192 → ∀ k : Fin 48, image[k] =
            if high = false then .off
            else if (shelfAt s e).sourceSelect.getLsbD k.val then (shelfAt s e).override[k]
            else ((shelfAt s e).mapped[k]).getD .off)))
end

