-- ==== Sys2Proof/Laws/Bits.lean ====
section
/-! SUPPORT. Words on a lamp link: what frames put out and what arriving bits form (R200). -/

namespace Sys2Proof.Machine

@[simp] theorem wordBits_length (w : FrameWord) : (wordBits w).length = 16 := by simp [wordBits]

@[simp] theorem frameBits_nil : frameBits [] = [] := rfl

@[simp] theorem frameBits_cons (w : FrameWord) (ws : List FrameWord) : frameBits (w :: ws) = wordBits w ++ frameBits ws :=
  rfl

theorem frameBits_length (ws : List FrameWord) : (frameBits ws).length = 16 * ws.length := by
  induction ws with
  | nil => rfl
  | cons w ws ih => simp only [frameBits_cons, List.length_append, wordBits_length, ih, List.length_cons]; omega

theorem wordsOfBits_length (n : Nat) (bits : List Bool) : (wordsOfBits n bits).length = n := by
  induction n generalizing bits with
  | zero => rfl
  | succ n ih => simp [wordsOfBits, ih]

theorem bitsNat_lt (bits : List Bool) : bitsNat bits < 2 ^ bits.length := by
  induction bits with
  | nil => simp [bitsNat]
  | cons b bits ih => cases b <;> simp only [bitsNat, List.length_cons, Nat.pow_succ, Bool.toNat_true, Bool.toNat_false] <;> omega

/-- Each bit of the number that bits hold. -/
theorem bitsNat_testBit (bits : List Bool) (i : Nat) : (bitsNat bits).testBit i = bits[i]?.getD false := by
  induction bits generalizing i with
  | nil => simp [bitsNat]
  | cons b bits ih =>
    cases i with
    | zero => cases b <;> simp [bitsNat, Nat.testBit_zero]
    | succ i =>
      have h : (b.toNat + 2 * bitsNat bits) / 2 = bitsNat bits := by cases b <;> simp <;> omega
      rw [bitsNat, Nat.testBit_succ, h, ih]; rfl

/-- The bits of a word form that word again. -/
theorem word_of_wordBits (w : FrameWord) : BitVec.ofNat 16 (bitsNat (wordBits w)) = w := by
  apply BitVec.eq_of_getLsbD_eq
  intro i hi
  rw [BitVec.getLsbD_ofNat, bitsNat_testBit, wordBits, List.getElem?_map, List.getElem?_range hi]
  simp [hi]

/-- The bits of a frame form its words again. -/
theorem framed_frameBits (ws : List FrameWord) : framed (frameBits ws) = ws := by
  have h : ∀ ws, wordsOfBits ws.length (frameBits ws) = ws := by
    intro ws
    induction ws with
    | nil => rfl
    | cons w ws ih =>
      rw [List.length_cons, wordsOfBits, frameBits_cons, List.take_left' (wordBits_length w),
        List.drop_left' (wordBits_length w), word_of_wordBits, ih]
  rw [framed, frameBits_length, if_pos (Nat.mul_mod_right 16 ws.length), Nat.mul_div_cancel_left _ (by decide), h]

end Sys2Proof.Machine
end

