-- ==== Sys2Proof/Laws/State.lean ====
section
/-! SUPPORT. The fields of State under each named update, one lemma a field, each true by `rfl`: a field an update
does not name is as it was; and the value of the field it does name. -/

namespace Sys2Proof.Machine

/-! ### putSlot -/

section
variable (n : Nat) (r : SlotRec) (s : State)
@[simp] theorem putSlot_pending : (putSlot n r s).pending = s.pending := rfl
@[simp] theorem putSlot_part : (putSlot n r s).part = s.part := rfl
@[simp] theorem putSlot_prun : (putSlot n r s).prun = s.prun := rfl
@[simp] theorem putSlot_straps : (putSlot n r s).straps = s.straps := rfl
@[simp] theorem putSlot_now : (putSlot n r s).now = s.now := rfl
@[simp] theorem putSlot_transit : (putSlot n r s).transit = s.transit := rfl
@[simp] theorem putSlot_boxes : (putSlot n r s).boxes = s.boxes := rfl
@[simp] theorem putSlot_lampMap : (putSlot n r s).lampMap = s.lampMap := rfl
@[simp] theorem putSlot_deposit : (putSlot n r s).deposit = s.deposit := rfl
@[simp] theorem putSlot_broadcasts : (putSlot n r s).broadcasts = s.broadcasts := rfl
@[simp] theorem putSlot_calendar : (putSlot n r s).calendar = s.calendar := rfl
@[simp] theorem putSlot_sweep : (putSlot n r s).sweep = s.sweep := rfl
@[simp] theorem putSlot_greetings : (putSlot n r s).greetings = s.greetings := rfl
@[simp] theorem putSlot_lamps : (putSlot n r s).lamps = s.lamps := rfl
@[simp] theorem putSlot_control : (putSlot n r s).control = s.control := rfl
@[simp] theorem putSlot_reports : (putSlot n r s).reports = s.reports := rfl
@[simp] theorem putSlot_counts : (putSlot n r s).counts = s.counts := rfl
@[simp] theorem putSlot_restartTag : (putSlot n r s).restartTag = s.restartTag := rfl
@[simp] theorem putSlot_loader : (putSlot n r s).loader = s.loader := rfl
@[simp] theorem putSlot_failing : (putSlot n r s).failing = s.failing := rfl
@[simp] theorem putSlot_slots : (putSlot n r s).slots = sparseSet SlotRec.empty s.slots n r := rfl
end

/-! ### putBox -/

section
variable (m : Nat) (b : MailboxRec) (s : State)
@[simp] theorem putBox_pending : (putBox m b s).pending = s.pending := rfl
@[simp] theorem putBox_part : (putBox m b s).part = s.part := rfl
@[simp] theorem putBox_prun : (putBox m b s).prun = s.prun := rfl
@[simp] theorem putBox_straps : (putBox m b s).straps = s.straps := rfl
@[simp] theorem putBox_now : (putBox m b s).now = s.now := rfl
@[simp] theorem putBox_transit : (putBox m b s).transit = s.transit := rfl
@[simp] theorem putBox_slots : (putBox m b s).slots = s.slots := rfl
@[simp] theorem putBox_lampMap : (putBox m b s).lampMap = s.lampMap := rfl
@[simp] theorem putBox_deposit : (putBox m b s).deposit = s.deposit := rfl
@[simp] theorem putBox_broadcasts : (putBox m b s).broadcasts = s.broadcasts := rfl
@[simp] theorem putBox_calendar : (putBox m b s).calendar = s.calendar := rfl
@[simp] theorem putBox_sweep : (putBox m b s).sweep = s.sweep := rfl
@[simp] theorem putBox_greetings : (putBox m b s).greetings = s.greetings := rfl
@[simp] theorem putBox_lamps : (putBox m b s).lamps = s.lamps := rfl
@[simp] theorem putBox_control : (putBox m b s).control = s.control := rfl
@[simp] theorem putBox_reports : (putBox m b s).reports = s.reports := rfl
@[simp] theorem putBox_counts : (putBox m b s).counts = s.counts := rfl
@[simp] theorem putBox_restartTag : (putBox m b s).restartTag = s.restartTag := rfl
@[simp] theorem putBox_loader : (putBox m b s).loader = s.loader := rfl
@[simp] theorem putBox_failing : (putBox m b s).failing = s.failing := rfl
@[simp] theorem putBox_boxes : (putBox m b s).boxes = sparseSet MailboxRec.empty s.boxes m b := rfl
end

/-! ### putHolder -/

section
variable (p : Nat) (m : Option Nat) (s : State)
@[simp] theorem putHolder_pending : (putHolder p m s).pending = s.pending := rfl
@[simp] theorem putHolder_part : (putHolder p m s).part = s.part := rfl
@[simp] theorem putHolder_prun : (putHolder p m s).prun = s.prun := rfl
@[simp] theorem putHolder_straps : (putHolder p m s).straps = s.straps := rfl
@[simp] theorem putHolder_now : (putHolder p m s).now = s.now := rfl
@[simp] theorem putHolder_transit : (putHolder p m s).transit = s.transit := rfl
@[simp] theorem putHolder_slots : (putHolder p m s).slots = s.slots := rfl
@[simp] theorem putHolder_boxes : (putHolder p m s).boxes = s.boxes := rfl
@[simp] theorem putHolder_deposit : (putHolder p m s).deposit = s.deposit := rfl
@[simp] theorem putHolder_broadcasts : (putHolder p m s).broadcasts = s.broadcasts := rfl
@[simp] theorem putHolder_calendar : (putHolder p m s).calendar = s.calendar := rfl
@[simp] theorem putHolder_sweep : (putHolder p m s).sweep = s.sweep := rfl
@[simp] theorem putHolder_greetings : (putHolder p m s).greetings = s.greetings := rfl
@[simp] theorem putHolder_lamps : (putHolder p m s).lamps = s.lamps := rfl
@[simp] theorem putHolder_control : (putHolder p m s).control = s.control := rfl
@[simp] theorem putHolder_reports : (putHolder p m s).reports = s.reports := rfl
@[simp] theorem putHolder_counts : (putHolder p m s).counts = s.counts := rfl
@[simp] theorem putHolder_restartTag : (putHolder p m s).restartTag = s.restartTag := rfl
@[simp] theorem putHolder_loader : (putHolder p m s).loader = s.loader := rfl
@[simp] theorem putHolder_failing : (putHolder p m s).failing = s.failing := rfl
@[simp] theorem putHolder_lampMap : (putHolder p m s).lampMap = sparseSet none s.lampMap p m := rfl
end

/-! ### putBroadcast -/

section
variable (n : Nat) (b : Broadcast) (s : State)
@[simp] theorem putBroadcast_pending : (putBroadcast n b s).pending = s.pending := rfl
@[simp] theorem putBroadcast_part : (putBroadcast n b s).part = s.part := rfl
@[simp] theorem putBroadcast_prun : (putBroadcast n b s).prun = s.prun := rfl
@[simp] theorem putBroadcast_straps : (putBroadcast n b s).straps = s.straps := rfl
@[simp] theorem putBroadcast_now : (putBroadcast n b s).now = s.now := rfl
@[simp] theorem putBroadcast_transit : (putBroadcast n b s).transit = s.transit := rfl
@[simp] theorem putBroadcast_slots : (putBroadcast n b s).slots = s.slots := rfl
@[simp] theorem putBroadcast_boxes : (putBroadcast n b s).boxes = s.boxes := rfl
@[simp] theorem putBroadcast_lampMap : (putBroadcast n b s).lampMap = s.lampMap := rfl
@[simp] theorem putBroadcast_deposit : (putBroadcast n b s).deposit = s.deposit := rfl
@[simp] theorem putBroadcast_calendar : (putBroadcast n b s).calendar = s.calendar := rfl
@[simp] theorem putBroadcast_sweep : (putBroadcast n b s).sweep = s.sweep := rfl
@[simp] theorem putBroadcast_greetings : (putBroadcast n b s).greetings = s.greetings := rfl
@[simp] theorem putBroadcast_lamps : (putBroadcast n b s).lamps = s.lamps := rfl
@[simp] theorem putBroadcast_control : (putBroadcast n b s).control = s.control := rfl
@[simp] theorem putBroadcast_reports : (putBroadcast n b s).reports = s.reports := rfl
@[simp] theorem putBroadcast_counts : (putBroadcast n b s).counts = s.counts := rfl
@[simp] theorem putBroadcast_restartTag : (putBroadcast n b s).restartTag = s.restartTag := rfl
@[simp] theorem putBroadcast_loader : (putBroadcast n b s).loader = s.loader := rfl
@[simp] theorem putBroadcast_failing : (putBroadcast n b s).failing = s.failing := rfl
@[simp] theorem putBroadcast_broadcasts : (putBroadcast n b s).broadcasts = s.broadcasts.setIfInBounds n b := rfl
end

/-! ### putContext -/

section
variable (k : Nat) (c : Option Context) (s : State)
@[simp] theorem putContext_pending : (putContext k c s).pending = s.pending := rfl
@[simp] theorem putContext_part : (putContext k c s).part = s.part := rfl
@[simp] theorem putContext_prun : (putContext k c s).prun = s.prun := rfl
@[simp] theorem putContext_straps : (putContext k c s).straps = s.straps := rfl
@[simp] theorem putContext_now : (putContext k c s).now = s.now := rfl
@[simp] theorem putContext_transit : (putContext k c s).transit = s.transit := rfl
@[simp] theorem putContext_slots : (putContext k c s).slots = s.slots := rfl
@[simp] theorem putContext_boxes : (putContext k c s).boxes = s.boxes := rfl
@[simp] theorem putContext_lampMap : (putContext k c s).lampMap = s.lampMap := rfl
@[simp] theorem putContext_broadcasts : (putContext k c s).broadcasts = s.broadcasts := rfl
@[simp] theorem putContext_calendar : (putContext k c s).calendar = s.calendar := rfl
@[simp] theorem putContext_sweep : (putContext k c s).sweep = s.sweep := rfl
@[simp] theorem putContext_greetings : (putContext k c s).greetings = s.greetings := rfl
@[simp] theorem putContext_lamps : (putContext k c s).lamps = s.lamps := rfl
@[simp] theorem putContext_control : (putContext k c s).control = s.control := rfl
@[simp] theorem putContext_reports : (putContext k c s).reports = s.reports := rfl
@[simp] theorem putContext_counts : (putContext k c s).counts = s.counts := rfl
@[simp] theorem putContext_restartTag : (putContext k c s).restartTag = s.restartTag := rfl
@[simp] theorem putContext_loader : (putContext k c s).loader = s.loader := rfl
@[simp] theorem putContext_failing : (putContext k c s).failing = s.failing := rfl
@[simp] theorem putContext_contexts : (putContext k c s).deposit.contexts = s.deposit.contexts.setIfInBounds k c := rfl
@[simp] theorem putContext_claims : (putContext k c s).deposit.claims = s.deposit.claims := rfl
@[simp] theorem putContext_calibration : (putContext k c s).deposit.calibration = s.deposit.calibration := rfl
end

/-! ### releaseContext -/

section
variable (k : Nat) (s : State)
@[simp] theorem releaseContext_pending : (releaseContext k s).pending = s.pending := rfl
@[simp] theorem releaseContext_part : (releaseContext k s).part = s.part := rfl
@[simp] theorem releaseContext_prun : (releaseContext k s).prun = s.prun := rfl
@[simp] theorem releaseContext_straps : (releaseContext k s).straps = s.straps := rfl
@[simp] theorem releaseContext_now : (releaseContext k s).now = s.now := rfl
@[simp] theorem releaseContext_transit : (releaseContext k s).transit = s.transit := rfl
@[simp] theorem releaseContext_slots : (releaseContext k s).slots = s.slots := rfl
@[simp] theorem releaseContext_boxes : (releaseContext k s).boxes = s.boxes := rfl
@[simp] theorem releaseContext_lampMap : (releaseContext k s).lampMap = s.lampMap := rfl
@[simp] theorem releaseContext_broadcasts : (releaseContext k s).broadcasts = s.broadcasts := rfl
@[simp] theorem releaseContext_calendar : (releaseContext k s).calendar = s.calendar := rfl
@[simp] theorem releaseContext_sweep : (releaseContext k s).sweep = s.sweep := rfl
@[simp] theorem releaseContext_greetings : (releaseContext k s).greetings = s.greetings := rfl
@[simp] theorem releaseContext_lamps : (releaseContext k s).lamps = s.lamps := rfl
@[simp] theorem releaseContext_control : (releaseContext k s).control = s.control := rfl
@[simp] theorem releaseContext_reports : (releaseContext k s).reports = s.reports := rfl
@[simp] theorem releaseContext_counts : (releaseContext k s).counts = s.counts := rfl
@[simp] theorem releaseContext_restartTag : (releaseContext k s).restartTag = s.restartTag := rfl
@[simp] theorem releaseContext_loader : (releaseContext k s).loader = s.loader := rfl
@[simp] theorem releaseContext_failing : (releaseContext k s).failing = s.failing := rfl
@[simp] theorem releaseContext_contexts : (releaseContext k s).deposit.contexts = s.deposit.contexts.setIfInBounds k none := rfl
@[simp] theorem releaseContext_claims :
    (releaseContext k s).deposit.claims = s.deposit.claims.filter (·.context != k) := rfl
@[simp] theorem releaseContext_calibration : (releaseContext k s).deposit.calibration = s.deposit.calibration := rfl
end

/-! ### addClaim -/

section
variable (c : TimeoutClaim) (s : State)
@[simp] theorem addClaim_pending : (addClaim c s).pending = s.pending := rfl
@[simp] theorem addClaim_part : (addClaim c s).part = s.part := rfl
@[simp] theorem addClaim_prun : (addClaim c s).prun = s.prun := rfl
@[simp] theorem addClaim_straps : (addClaim c s).straps = s.straps := rfl
@[simp] theorem addClaim_now : (addClaim c s).now = s.now := rfl
@[simp] theorem addClaim_transit : (addClaim c s).transit = s.transit := rfl
@[simp] theorem addClaim_slots : (addClaim c s).slots = s.slots := rfl
@[simp] theorem addClaim_boxes : (addClaim c s).boxes = s.boxes := rfl
@[simp] theorem addClaim_lampMap : (addClaim c s).lampMap = s.lampMap := rfl
@[simp] theorem addClaim_broadcasts : (addClaim c s).broadcasts = s.broadcasts := rfl
@[simp] theorem addClaim_calendar : (addClaim c s).calendar = s.calendar := rfl
@[simp] theorem addClaim_sweep : (addClaim c s).sweep = s.sweep := rfl
@[simp] theorem addClaim_greetings : (addClaim c s).greetings = s.greetings := rfl
@[simp] theorem addClaim_lamps : (addClaim c s).lamps = s.lamps := rfl
@[simp] theorem addClaim_control : (addClaim c s).control = s.control := rfl
@[simp] theorem addClaim_reports : (addClaim c s).reports = s.reports := rfl
@[simp] theorem addClaim_counts : (addClaim c s).counts = s.counts := rfl
@[simp] theorem addClaim_restartTag : (addClaim c s).restartTag = s.restartTag := rfl
@[simp] theorem addClaim_loader : (addClaim c s).loader = s.loader := rfl
@[simp] theorem addClaim_failing : (addClaim c s).failing = s.failing := rfl
@[simp] theorem addClaim_contexts : (addClaim c s).deposit.contexts = s.deposit.contexts := rfl
@[simp] theorem addClaim_claims : (addClaim c s).deposit.claims = s.deposit.claims ++ [c] := rfl
@[simp] theorem addClaim_calibration : (addClaim c s).deposit.calibration = s.deposit.calibration := rfl
end

/-! ### putLatch -/

section
variable (k : Nat) (l : Option Latch) (s : State)
@[simp] theorem putLatch_pending : (putLatch k l s).pending = s.pending := rfl
@[simp] theorem putLatch_part : (putLatch k l s).part = s.part := rfl
@[simp] theorem putLatch_prun : (putLatch k l s).prun = s.prun := rfl
@[simp] theorem putLatch_straps : (putLatch k l s).straps = s.straps := rfl
@[simp] theorem putLatch_now : (putLatch k l s).now = s.now := rfl
@[simp] theorem putLatch_transit : (putLatch k l s).transit = s.transit := rfl
@[simp] theorem putLatch_slots : (putLatch k l s).slots = s.slots := rfl
@[simp] theorem putLatch_boxes : (putLatch k l s).boxes = s.boxes := rfl
@[simp] theorem putLatch_lampMap : (putLatch k l s).lampMap = s.lampMap := rfl
@[simp] theorem putLatch_deposit : (putLatch k l s).deposit = s.deposit := rfl
@[simp] theorem putLatch_broadcasts : (putLatch k l s).broadcasts = s.broadcasts := rfl
@[simp] theorem putLatch_calendar : (putLatch k l s).calendar = s.calendar := rfl
@[simp] theorem putLatch_sweep : (putLatch k l s).sweep = s.sweep := rfl
@[simp] theorem putLatch_lamps : (putLatch k l s).lamps = s.lamps := rfl
@[simp] theorem putLatch_control : (putLatch k l s).control = s.control := rfl
@[simp] theorem putLatch_reports : (putLatch k l s).reports = s.reports := rfl
@[simp] theorem putLatch_counts : (putLatch k l s).counts = s.counts := rfl
@[simp] theorem putLatch_restartTag : (putLatch k l s).restartTag = s.restartTag := rfl
@[simp] theorem putLatch_loader : (putLatch k l s).loader = s.loader := rfl
@[simp] theorem putLatch_failing : (putLatch k l s).failing = s.failing := rfl
@[simp] theorem putLatch_latches : (putLatch k l s).greetings.latches = s.greetings.latches.setIfInBounds k l := rfl
@[simp] theorem putLatch_schedules : (putLatch k l s).greetings.schedules = s.greetings.schedules := rfl
@[simp] theorem putLatch_breaks : (putLatch k l s).greetings.breaks = s.greetings.breaks := rfl
@[simp] theorem putLatch_emptySpell : (putLatch k l s).greetings.emptySpell = s.greetings.emptySpell := rfl
end

/-! ### releaseLatch -/

section
variable (k : Nat) (s : State)
@[simp] theorem releaseLatch_pending : (releaseLatch k s).pending = s.pending := rfl
@[simp] theorem releaseLatch_part : (releaseLatch k s).part = s.part := rfl
@[simp] theorem releaseLatch_prun : (releaseLatch k s).prun = s.prun := rfl
@[simp] theorem releaseLatch_straps : (releaseLatch k s).straps = s.straps := rfl
@[simp] theorem releaseLatch_now : (releaseLatch k s).now = s.now := rfl
@[simp] theorem releaseLatch_transit : (releaseLatch k s).transit = s.transit := rfl
@[simp] theorem releaseLatch_slots : (releaseLatch k s).slots = s.slots := rfl
@[simp] theorem releaseLatch_boxes : (releaseLatch k s).boxes = s.boxes := rfl
@[simp] theorem releaseLatch_lampMap : (releaseLatch k s).lampMap = s.lampMap := rfl
@[simp] theorem releaseLatch_deposit : (releaseLatch k s).deposit = s.deposit := rfl
@[simp] theorem releaseLatch_broadcasts : (releaseLatch k s).broadcasts = s.broadcasts := rfl
@[simp] theorem releaseLatch_calendar : (releaseLatch k s).calendar = s.calendar := rfl
@[simp] theorem releaseLatch_sweep : (releaseLatch k s).sweep = s.sweep := rfl
@[simp] theorem releaseLatch_lamps : (releaseLatch k s).lamps = s.lamps := rfl
@[simp] theorem releaseLatch_control : (releaseLatch k s).control = s.control := rfl
@[simp] theorem releaseLatch_reports : (releaseLatch k s).reports = s.reports := rfl
@[simp] theorem releaseLatch_counts : (releaseLatch k s).counts = s.counts := rfl
@[simp] theorem releaseLatch_restartTag : (releaseLatch k s).restartTag = s.restartTag := rfl
@[simp] theorem releaseLatch_loader : (releaseLatch k s).loader = s.loader := rfl
@[simp] theorem releaseLatch_failing : (releaseLatch k s).failing = s.failing := rfl
@[simp] theorem releaseLatch_latches : (releaseLatch k s).greetings.latches = s.greetings.latches.setIfInBounds k none := rfl
@[simp] theorem releaseLatch_schedules : (releaseLatch k s).greetings.schedules = s.greetings.schedules := rfl
@[simp] theorem releaseLatch_breaks : (releaseLatch k s).greetings.breaks = s.greetings.breaks := rfl
@[simp] theorem releaseLatch_emptySpell : (releaseLatch k s).greetings.emptySpell = false := rfl
end

/-! ### reachMoment -/

section
variable (t : Nat) (s : State)
@[simp] theorem reachMoment_pending : (reachMoment t s).pending = s.pending := rfl
@[simp] theorem reachMoment_part : (reachMoment t s).part = s.part := rfl
@[simp] theorem reachMoment_prun : (reachMoment t s).prun = s.prun := rfl
@[simp] theorem reachMoment_straps : (reachMoment t s).straps = s.straps := rfl
@[simp] theorem reachMoment_transit : (reachMoment t s).transit = s.transit := rfl
@[simp] theorem reachMoment_slots : (reachMoment t s).slots = s.slots := rfl
@[simp] theorem reachMoment_boxes : (reachMoment t s).boxes = s.boxes := rfl
@[simp] theorem reachMoment_lampMap : (reachMoment t s).lampMap = s.lampMap := rfl
@[simp] theorem reachMoment_deposit : (reachMoment t s).deposit = s.deposit := rfl
@[simp] theorem reachMoment_broadcasts : (reachMoment t s).broadcasts = s.broadcasts := rfl
@[simp] theorem reachMoment_calendar : (reachMoment t s).calendar = s.calendar := rfl
@[simp] theorem reachMoment_sweep : (reachMoment t s).sweep = s.sweep := rfl
@[simp] theorem reachMoment_greetings : (reachMoment t s).greetings = s.greetings := rfl
@[simp] theorem reachMoment_lamps : (reachMoment t s).lamps = s.lamps := rfl
@[simp] theorem reachMoment_control : (reachMoment t s).control = s.control := rfl
@[simp] theorem reachMoment_reports : (reachMoment t s).reports = s.reports := rfl
@[simp] theorem reachMoment_counts : (reachMoment t s).counts = s.counts := rfl
@[simp] theorem reachMoment_restartTag : (reachMoment t s).restartTag = s.restartTag := rfl
@[simp] theorem reachMoment_loader : (reachMoment t s).loader = s.loader := rfl
@[simp] theorem reachMoment_failing : (reachMoment t s).failing = s.failing := rfl
@[simp] theorem reachMoment_now : (reachMoment t s).now = if s.now < t then t else s.now := rfl
end

/-! ### setTurn -/

section
variable (q : Requester) (s : State)
@[simp] theorem setTurn_pending : (setTurn q s).pending = s.pending := rfl
@[simp] theorem setTurn_part : (setTurn q s).part = s.part := rfl
@[simp] theorem setTurn_prun : (setTurn q s).prun = s.prun := rfl
@[simp] theorem setTurn_straps : (setTurn q s).straps = s.straps := rfl
@[simp] theorem setTurn_now : (setTurn q s).now = s.now := rfl
@[simp] theorem setTurn_slots : (setTurn q s).slots = s.slots := rfl
@[simp] theorem setTurn_boxes : (setTurn q s).boxes = s.boxes := rfl
@[simp] theorem setTurn_lampMap : (setTurn q s).lampMap = s.lampMap := rfl
@[simp] theorem setTurn_deposit : (setTurn q s).deposit = s.deposit := rfl
@[simp] theorem setTurn_broadcasts : (setTurn q s).broadcasts = s.broadcasts := rfl
@[simp] theorem setTurn_calendar : (setTurn q s).calendar = s.calendar := rfl
@[simp] theorem setTurn_sweep : (setTurn q s).sweep = s.sweep := rfl
@[simp] theorem setTurn_greetings : (setTurn q s).greetings = s.greetings := rfl
@[simp] theorem setTurn_lamps : (setTurn q s).lamps = s.lamps := rfl
@[simp] theorem setTurn_control : (setTurn q s).control = s.control := rfl
@[simp] theorem setTurn_reports : (setTurn q s).reports = s.reports := rfl
@[simp] theorem setTurn_counts : (setTurn q s).counts = s.counts := rfl
@[simp] theorem setTurn_restartTag : (setTurn q s).restartTag = s.restartTag := rfl
@[simp] theorem setTurn_loader : (setTurn q s).loader = s.loader := rfl
@[simp] theorem setTurn_failing : (setTurn q s).failing = s.failing := rfl
@[simp] theorem setTurn_transit_ctlSel : (setTurn q s).transit.ctlSel = s.transit.ctlSel := rfl
@[simp] theorem setTurn_transit_regions : (setTurn q s).transit.regions = s.transit.regions := rfl
@[simp] theorem setTurn_transit_arrivals : (setTurn q s).transit.arrivals = s.transit.arrivals := rfl
@[simp] theorem setTurn_transit_queue : (setTurn q s).transit.queue = s.transit.queue := rfl
@[simp] theorem setTurn_transit_joined : (setTurn q s).transit.joined = s.transit.joined := rfl
@[simp] theorem setTurn_transit_order : (setTurn q s).transit.order = s.transit.order := rfl
@[simp] theorem setTurn_transit_returned : (setTurn q s).transit.returned = s.transit.returned := rfl
@[simp] theorem setTurn_transit_turn : (setTurn q s).transit.turn = q := rfl
end

/-! ### place -/

section
variable (es : List Entry) (s : State)
@[simp] theorem place_pending : (place es s).pending = s.pending := rfl
@[simp] theorem place_part : (place es s).part = s.part := rfl
@[simp] theorem place_prun : (place es s).prun = s.prun := rfl
@[simp] theorem place_straps : (place es s).straps = s.straps := rfl
@[simp] theorem place_now : (place es s).now = s.now := rfl
@[simp] theorem place_slots : (place es s).slots = s.slots := rfl
@[simp] theorem place_boxes : (place es s).boxes = s.boxes := rfl
@[simp] theorem place_lampMap : (place es s).lampMap = s.lampMap := rfl
@[simp] theorem place_deposit : (place es s).deposit = s.deposit := rfl
@[simp] theorem place_broadcasts : (place es s).broadcasts = s.broadcasts := rfl
@[simp] theorem place_calendar : (place es s).calendar = s.calendar := rfl
@[simp] theorem place_sweep : (place es s).sweep = s.sweep := rfl
@[simp] theorem place_greetings : (place es s).greetings = s.greetings := rfl
@[simp] theorem place_lamps : (place es s).lamps = s.lamps := rfl
@[simp] theorem place_control : (place es s).control = s.control := rfl
@[simp] theorem place_reports : (place es s).reports = s.reports := rfl
@[simp] theorem place_counts : (place es s).counts = s.counts := rfl
@[simp] theorem place_restartTag : (place es s).restartTag = s.restartTag := rfl
@[simp] theorem place_loader : (place es s).loader = s.loader := rfl
@[simp] theorem place_failing : (place es s).failing = s.failing := rfl
@[simp] theorem place_transit_ctlSel : (place es s).transit.ctlSel = s.transit.ctlSel := rfl
@[simp] theorem place_transit_regions : (place es s).transit.regions = s.transit.regions := rfl
@[simp] theorem place_transit_arrivals : (place es s).transit.arrivals = s.transit.arrivals := rfl
@[simp] theorem place_transit_turn : (place es s).transit.turn = s.transit.turn := rfl
@[simp] theorem place_transit_order : (place es s).transit.order = s.transit.order := rfl
@[simp] theorem place_transit_returned : (place es s).transit.returned = s.transit.returned := rfl
@[simp] theorem place_transit_queue : (place es s).transit.queue = s.transit.queue ++ es := rfl
@[simp] theorem place_transit_joined : (place es s).transit.joined = s.transit.joined + es.length := rfl
end

/-! ### joinOrder -/

section
variable (x : Option Response) (s : State)
@[simp] theorem joinOrder_pending : (joinOrder x s).pending = s.pending := rfl
@[simp] theorem joinOrder_part : (joinOrder x s).part = s.part := rfl
@[simp] theorem joinOrder_prun : (joinOrder x s).prun = s.prun := rfl
@[simp] theorem joinOrder_straps : (joinOrder x s).straps = s.straps := rfl
@[simp] theorem joinOrder_now : (joinOrder x s).now = s.now := rfl
@[simp] theorem joinOrder_slots : (joinOrder x s).slots = s.slots := rfl
@[simp] theorem joinOrder_boxes : (joinOrder x s).boxes = s.boxes := rfl
@[simp] theorem joinOrder_lampMap : (joinOrder x s).lampMap = s.lampMap := rfl
@[simp] theorem joinOrder_deposit : (joinOrder x s).deposit = s.deposit := rfl
@[simp] theorem joinOrder_broadcasts : (joinOrder x s).broadcasts = s.broadcasts := rfl
@[simp] theorem joinOrder_calendar : (joinOrder x s).calendar = s.calendar := rfl
@[simp] theorem joinOrder_sweep : (joinOrder x s).sweep = s.sweep := rfl
@[simp] theorem joinOrder_greetings : (joinOrder x s).greetings = s.greetings := rfl
@[simp] theorem joinOrder_lamps : (joinOrder x s).lamps = s.lamps := rfl
@[simp] theorem joinOrder_control : (joinOrder x s).control = s.control := rfl
@[simp] theorem joinOrder_reports : (joinOrder x s).reports = s.reports := rfl
@[simp] theorem joinOrder_counts : (joinOrder x s).counts = s.counts := rfl
@[simp] theorem joinOrder_restartTag : (joinOrder x s).restartTag = s.restartTag := rfl
@[simp] theorem joinOrder_loader : (joinOrder x s).loader = s.loader := rfl
@[simp] theorem joinOrder_failing : (joinOrder x s).failing = s.failing := rfl
@[simp] theorem joinOrder_transit_ctlSel : (joinOrder x s).transit.ctlSel = s.transit.ctlSel := rfl
@[simp] theorem joinOrder_transit_regions : (joinOrder x s).transit.regions = s.transit.regions := rfl
@[simp] theorem joinOrder_transit_arrivals : (joinOrder x s).transit.arrivals = s.transit.arrivals := rfl
@[simp] theorem joinOrder_transit_queue : (joinOrder x s).transit.queue = s.transit.queue := rfl
@[simp] theorem joinOrder_transit_joined : (joinOrder x s).transit.joined = s.transit.joined := rfl
@[simp] theorem joinOrder_transit_turn : (joinOrder x s).transit.turn = s.transit.turn := rfl
@[simp] theorem joinOrder_transit_returned : (joinOrder x s).transit.returned = s.transit.returned := rfl
@[simp] theorem joinOrder_transit_order : (joinOrder x s).transit.order = s.transit.order ++ [x] := rfl
end

/-! ### fixResponse -/

section
variable (x : Response) (s : State)
@[simp] theorem fixResponse_pending : (fixResponse x s).pending = s.pending := rfl
@[simp] theorem fixResponse_part : (fixResponse x s).part = s.part := rfl
@[simp] theorem fixResponse_prun : (fixResponse x s).prun = s.prun := rfl
@[simp] theorem fixResponse_straps : (fixResponse x s).straps = s.straps := rfl
@[simp] theorem fixResponse_now : (fixResponse x s).now = s.now := rfl
@[simp] theorem fixResponse_slots : (fixResponse x s).slots = s.slots := rfl
@[simp] theorem fixResponse_boxes : (fixResponse x s).boxes = s.boxes := rfl
@[simp] theorem fixResponse_lampMap : (fixResponse x s).lampMap = s.lampMap := rfl
@[simp] theorem fixResponse_deposit : (fixResponse x s).deposit = s.deposit := rfl
@[simp] theorem fixResponse_broadcasts : (fixResponse x s).broadcasts = s.broadcasts := rfl
@[simp] theorem fixResponse_calendar : (fixResponse x s).calendar = s.calendar := rfl
@[simp] theorem fixResponse_sweep : (fixResponse x s).sweep = s.sweep := rfl
@[simp] theorem fixResponse_greetings : (fixResponse x s).greetings = s.greetings := rfl
@[simp] theorem fixResponse_lamps : (fixResponse x s).lamps = s.lamps := rfl
@[simp] theorem fixResponse_control : (fixResponse x s).control = s.control := rfl
@[simp] theorem fixResponse_reports : (fixResponse x s).reports = s.reports := rfl
@[simp] theorem fixResponse_counts : (fixResponse x s).counts = s.counts := rfl
@[simp] theorem fixResponse_restartTag : (fixResponse x s).restartTag = s.restartTag := rfl
@[simp] theorem fixResponse_loader : (fixResponse x s).loader = s.loader := rfl
@[simp] theorem fixResponse_failing : (fixResponse x s).failing = s.failing := rfl
@[simp] theorem fixResponse_transit_ctlSel : (fixResponse x s).transit.ctlSel = s.transit.ctlSel := rfl
@[simp] theorem fixResponse_transit_regions : (fixResponse x s).transit.regions = s.transit.regions := rfl
@[simp] theorem fixResponse_transit_arrivals : (fixResponse x s).transit.arrivals = s.transit.arrivals := rfl
@[simp] theorem fixResponse_transit_queue : (fixResponse x s).transit.queue = s.transit.queue := rfl
@[simp] theorem fixResponse_transit_joined : (fixResponse x s).transit.joined = s.transit.joined := rfl
@[simp] theorem fixResponse_transit_turn : (fixResponse x s).transit.turn = s.transit.turn := rfl
@[simp] theorem fixResponse_transit_returned : (fixResponse x s).transit.returned = s.transit.returned := rfl
@[simp] theorem fixResponse_transit_order : (fixResponse x s).transit.order = fixFirst x s.transit.order := rfl
end

/-! ### returned -/

section
variable (s : State)
@[simp] theorem returned_pending : (returned s).pending = s.pending := rfl
@[simp] theorem returned_part : (returned s).part = s.part := rfl
@[simp] theorem returned_prun : (returned s).prun = s.prun := rfl
@[simp] theorem returned_straps : (returned s).straps = s.straps := rfl
@[simp] theorem returned_now : (returned s).now = s.now := rfl
@[simp] theorem returned_slots : (returned s).slots = s.slots := rfl
@[simp] theorem returned_boxes : (returned s).boxes = s.boxes := rfl
@[simp] theorem returned_lampMap : (returned s).lampMap = s.lampMap := rfl
@[simp] theorem returned_deposit : (returned s).deposit = s.deposit := rfl
@[simp] theorem returned_broadcasts : (returned s).broadcasts = s.broadcasts := rfl
@[simp] theorem returned_calendar : (returned s).calendar = s.calendar := rfl
@[simp] theorem returned_sweep : (returned s).sweep = s.sweep := rfl
@[simp] theorem returned_greetings : (returned s).greetings = s.greetings := rfl
@[simp] theorem returned_lamps : (returned s).lamps = s.lamps := rfl
@[simp] theorem returned_control : (returned s).control = s.control := rfl
@[simp] theorem returned_reports : (returned s).reports = s.reports := rfl
@[simp] theorem returned_counts : (returned s).counts = s.counts := rfl
@[simp] theorem returned_restartTag : (returned s).restartTag = s.restartTag := rfl
@[simp] theorem returned_loader : (returned s).loader = s.loader := rfl
@[simp] theorem returned_failing : (returned s).failing = s.failing := rfl
@[simp] theorem returned_transit_ctlSel : (returned s).transit.ctlSel = s.transit.ctlSel := rfl
@[simp] theorem returned_transit_regions : (returned s).transit.regions = s.transit.regions := rfl
@[simp] theorem returned_transit_arrivals : (returned s).transit.arrivals = s.transit.arrivals := rfl
@[simp] theorem returned_transit_queue : (returned s).transit.queue = s.transit.queue := rfl
@[simp] theorem returned_transit_joined : (returned s).transit.joined = s.transit.joined := rfl
@[simp] theorem returned_transit_turn : (returned s).transit.turn = s.transit.turn := rfl
@[simp] theorem returned_transit_order :
    (returned s).transit.order = (returnResponses s.transit.order s.transit.returned).1 := rfl
@[simp] theorem returned_transit_returned :
    (returned s).transit.returned = (returnResponses s.transit.order s.transit.returned).2 := rfl
end

/-! ### updateShelf -/

section
variable (e : Nat) (f : Shelf → Shelf) (s : State)
@[simp] theorem updateShelf_pending : (updateShelf e f s).pending = s.pending := rfl
@[simp] theorem updateShelf_part : (updateShelf e f s).part = s.part := rfl
@[simp] theorem updateShelf_prun : (updateShelf e f s).prun = s.prun := rfl
@[simp] theorem updateShelf_straps : (updateShelf e f s).straps = s.straps := rfl
@[simp] theorem updateShelf_now : (updateShelf e f s).now = s.now := rfl
@[simp] theorem updateShelf_transit : (updateShelf e f s).transit = s.transit := rfl
@[simp] theorem updateShelf_slots : (updateShelf e f s).slots = s.slots := rfl
@[simp] theorem updateShelf_boxes : (updateShelf e f s).boxes = s.boxes := rfl
@[simp] theorem updateShelf_lampMap : (updateShelf e f s).lampMap = s.lampMap := rfl
@[simp] theorem updateShelf_deposit : (updateShelf e f s).deposit = s.deposit := rfl
@[simp] theorem updateShelf_broadcasts : (updateShelf e f s).broadcasts = s.broadcasts := rfl
@[simp] theorem updateShelf_calendar : (updateShelf e f s).calendar = s.calendar := rfl
@[simp] theorem updateShelf_sweep : (updateShelf e f s).sweep = s.sweep := rfl
@[simp] theorem updateShelf_greetings : (updateShelf e f s).greetings = s.greetings := rfl
@[simp] theorem updateShelf_control : (updateShelf e f s).control = s.control := rfl
@[simp] theorem updateShelf_reports : (updateShelf e f s).reports = s.reports := rfl
@[simp] theorem updateShelf_counts : (updateShelf e f s).counts = s.counts := rfl
@[simp] theorem updateShelf_restartTag : (updateShelf e f s).restartTag = s.restartTag := rfl
@[simp] theorem updateShelf_loader : (updateShelf e f s).loader = s.loader := rfl
@[simp] theorem updateShelf_failing : (updateShelf e f s).failing = s.failing := rfl
@[simp] theorem updateShelf_lamps : (updateShelf e f s).lamps = putShelf e (f (shelfAt s e)) s.lamps := rfl
end

/-! ### updateLink -/

section
variable (k : Link) (f : LinkState → LinkState) (s : State)
@[simp] theorem updateLink_pending : (updateLink k f s).pending = s.pending := rfl
@[simp] theorem updateLink_part : (updateLink k f s).part = s.part := rfl
@[simp] theorem updateLink_prun : (updateLink k f s).prun = s.prun := rfl
@[simp] theorem updateLink_straps : (updateLink k f s).straps = s.straps := rfl
@[simp] theorem updateLink_now : (updateLink k f s).now = s.now := rfl
@[simp] theorem updateLink_transit : (updateLink k f s).transit = s.transit := rfl
@[simp] theorem updateLink_slots : (updateLink k f s).slots = s.slots := rfl
@[simp] theorem updateLink_boxes : (updateLink k f s).boxes = s.boxes := rfl
@[simp] theorem updateLink_lampMap : (updateLink k f s).lampMap = s.lampMap := rfl
@[simp] theorem updateLink_deposit : (updateLink k f s).deposit = s.deposit := rfl
@[simp] theorem updateLink_broadcasts : (updateLink k f s).broadcasts = s.broadcasts := rfl
@[simp] theorem updateLink_calendar : (updateLink k f s).calendar = s.calendar := rfl
@[simp] theorem updateLink_sweep : (updateLink k f s).sweep = s.sweep := rfl
@[simp] theorem updateLink_greetings : (updateLink k f s).greetings = s.greetings := rfl
@[simp] theorem updateLink_control : (updateLink k f s).control = s.control := rfl
@[simp] theorem updateLink_reports : (updateLink k f s).reports = s.reports := rfl
@[simp] theorem updateLink_counts : (updateLink k f s).counts = s.counts := rfl
@[simp] theorem updateLink_restartTag : (updateLink k f s).restartTag = s.restartTag := rfl
@[simp] theorem updateLink_loader : (updateLink k f s).loader = s.loader := rfl
@[simp] theorem updateLink_failing : (updateLink k f s).failing = s.failing := rfl
@[simp] theorem updateLink_lamps : (updateLink k f s).lamps = putLinkState k (f (linkState s.lamps k)) s.lamps := rfl
end

/-! ### setActivity -/

section
variable (k : Link) (a : Activity) (s : State)
@[simp] theorem setActivity_pending : (setActivity k a s).pending = s.pending := rfl
@[simp] theorem setActivity_part : (setActivity k a s).part = s.part := rfl
@[simp] theorem setActivity_prun : (setActivity k a s).prun = s.prun := rfl
@[simp] theorem setActivity_straps : (setActivity k a s).straps = s.straps := rfl
@[simp] theorem setActivity_now : (setActivity k a s).now = s.now := rfl
@[simp] theorem setActivity_transit : (setActivity k a s).transit = s.transit := rfl
@[simp] theorem setActivity_slots : (setActivity k a s).slots = s.slots := rfl
@[simp] theorem setActivity_boxes : (setActivity k a s).boxes = s.boxes := rfl
@[simp] theorem setActivity_lampMap : (setActivity k a s).lampMap = s.lampMap := rfl
@[simp] theorem setActivity_deposit : (setActivity k a s).deposit = s.deposit := rfl
@[simp] theorem setActivity_broadcasts : (setActivity k a s).broadcasts = s.broadcasts := rfl
@[simp] theorem setActivity_calendar : (setActivity k a s).calendar = s.calendar := rfl
@[simp] theorem setActivity_sweep : (setActivity k a s).sweep = s.sweep := rfl
@[simp] theorem setActivity_greetings : (setActivity k a s).greetings = s.greetings := rfl
@[simp] theorem setActivity_control : (setActivity k a s).control = s.control := rfl
@[simp] theorem setActivity_reports : (setActivity k a s).reports = s.reports := rfl
@[simp] theorem setActivity_counts : (setActivity k a s).counts = s.counts := rfl
@[simp] theorem setActivity_restartTag : (setActivity k a s).restartTag = s.restartTag := rfl
@[simp] theorem setActivity_loader : (setActivity k a s).loader = s.loader := rfl
@[simp] theorem setActivity_failing : (setActivity k a s).failing = s.failing := rfl
@[simp] theorem setActivity_lamps :
    (setActivity k a s).lamps = putLinkState k { linkState s.lamps k with activity := a } s.lamps := rfl
end

/-! ### startSweep -/

section
variable (s : State)
@[simp] theorem startSweep_pending : (startSweep s).pending = s.pending := rfl
@[simp] theorem startSweep_part : (startSweep s).part = s.part := rfl
@[simp] theorem startSweep_prun : (startSweep s).prun = s.prun := rfl
@[simp] theorem startSweep_straps : (startSweep s).straps = s.straps := rfl
@[simp] theorem startSweep_now : (startSweep s).now = s.now := rfl
@[simp] theorem startSweep_transit : (startSweep s).transit = s.transit := rfl
@[simp] theorem startSweep_slots : (startSweep s).slots = s.slots := rfl
@[simp] theorem startSweep_boxes : (startSweep s).boxes = s.boxes := rfl
@[simp] theorem startSweep_lampMap : (startSweep s).lampMap = s.lampMap := rfl
@[simp] theorem startSweep_deposit : (startSweep s).deposit = s.deposit := rfl
@[simp] theorem startSweep_broadcasts : (startSweep s).broadcasts = s.broadcasts := rfl
@[simp] theorem startSweep_calendar : (startSweep s).calendar = s.calendar := rfl
@[simp] theorem startSweep_greetings : (startSweep s).greetings = s.greetings := rfl
@[simp] theorem startSweep_lamps : (startSweep s).lamps = s.lamps := rfl
@[simp] theorem startSweep_control : (startSweep s).control = s.control := rfl
@[simp] theorem startSweep_reports : (startSweep s).reports = s.reports := rfl
@[simp] theorem startSweep_counts : (startSweep s).counts = s.counts := rfl
@[simp] theorem startSweep_restartTag : (startSweep s).restartTag = s.restartTag := rfl
@[simp] theorem startSweep_loader : (startSweep s).loader = s.loader := rfl
@[simp] theorem startSweep_failing : (startSweep s).failing = s.failing := rfl
@[simp] theorem startSweep_sweep :
    (startSweep s).sweep = ⟨true, .visiting, if s.calendar.isSet then s.calendar.day else 0, 0, 0, 0, 0⟩ := rfl
end

/-! ### takeConsumer -/

section
variable (c : Nat) (s : State)
@[simp] theorem takeConsumer_pending : (takeConsumer c s).pending = s.pending := rfl
@[simp] theorem takeConsumer_part : (takeConsumer c s).part = s.part := rfl
@[simp] theorem takeConsumer_prun : (takeConsumer c s).prun = s.prun := rfl
@[simp] theorem takeConsumer_straps : (takeConsumer c s).straps = s.straps := rfl
@[simp] theorem takeConsumer_now : (takeConsumer c s).now = s.now := rfl
@[simp] theorem takeConsumer_transit : (takeConsumer c s).transit = s.transit := rfl
@[simp] theorem takeConsumer_slots : (takeConsumer c s).slots = s.slots := rfl
@[simp] theorem takeConsumer_boxes : (takeConsumer c s).boxes = s.boxes := rfl
@[simp] theorem takeConsumer_lampMap : (takeConsumer c s).lampMap = s.lampMap := rfl
@[simp] theorem takeConsumer_deposit : (takeConsumer c s).deposit = s.deposit := rfl
@[simp] theorem takeConsumer_broadcasts : (takeConsumer c s).broadcasts = s.broadcasts := rfl
@[simp] theorem takeConsumer_calendar : (takeConsumer c s).calendar = s.calendar := rfl
@[simp] theorem takeConsumer_sweep : (takeConsumer c s).sweep = s.sweep := rfl
@[simp] theorem takeConsumer_greetings : (takeConsumer c s).greetings = s.greetings := rfl
@[simp] theorem takeConsumer_lamps : (takeConsumer c s).lamps = s.lamps := rfl
@[simp] theorem takeConsumer_control : (takeConsumer c s).control = s.control := rfl
@[simp] theorem takeConsumer_counts : (takeConsumer c s).counts = s.counts := rfl
@[simp] theorem takeConsumer_restartTag : (takeConsumer c s).restartTag = s.restartTag := rfl
@[simp] theorem takeConsumer_loader : (takeConsumer c s).loader = s.loader := rfl
@[simp] theorem takeConsumer_failing : (takeConsumer c s).failing = s.failing := rfl
@[simp] theorem takeConsumer_consumer : (takeConsumer c s).reports.consumer = c := rfl
@[simp] theorem takeConsumer_producer : (takeConsumer c s).reports.producer = s.reports.producer := rfl
@[simp] theorem takeConsumer_held : (takeConsumer c s).reports.held = s.reports.held := rfl
@[simp] theorem takeConsumer_writing : (takeConsumer c s).reports.writing = s.reports.writing := rfl
@[simp] theorem takeConsumer_latch : (takeConsumer c s).reports.latch = s.reports.latch := rfl
@[simp] theorem takeConsumer_base : (takeConsumer c s).reports.base = s.reports.base := rfl
end

/-! ### clearLatch -/

section
variable (s : State)
@[simp] theorem clearLatch_pending : (clearLatch s).pending = s.pending := rfl
@[simp] theorem clearLatch_part : (clearLatch s).part = s.part := rfl
@[simp] theorem clearLatch_prun : (clearLatch s).prun = s.prun := rfl
@[simp] theorem clearLatch_straps : (clearLatch s).straps = s.straps := rfl
@[simp] theorem clearLatch_now : (clearLatch s).now = s.now := rfl
@[simp] theorem clearLatch_transit : (clearLatch s).transit = s.transit := rfl
@[simp] theorem clearLatch_slots : (clearLatch s).slots = s.slots := rfl
@[simp] theorem clearLatch_boxes : (clearLatch s).boxes = s.boxes := rfl
@[simp] theorem clearLatch_lampMap : (clearLatch s).lampMap = s.lampMap := rfl
@[simp] theorem clearLatch_deposit : (clearLatch s).deposit = s.deposit := rfl
@[simp] theorem clearLatch_broadcasts : (clearLatch s).broadcasts = s.broadcasts := rfl
@[simp] theorem clearLatch_calendar : (clearLatch s).calendar = s.calendar := rfl
@[simp] theorem clearLatch_sweep : (clearLatch s).sweep = s.sweep := rfl
@[simp] theorem clearLatch_greetings : (clearLatch s).greetings = s.greetings := rfl
@[simp] theorem clearLatch_lamps : (clearLatch s).lamps = s.lamps := rfl
@[simp] theorem clearLatch_control : (clearLatch s).control = s.control := rfl
@[simp] theorem clearLatch_counts : (clearLatch s).counts = s.counts := rfl
@[simp] theorem clearLatch_restartTag : (clearLatch s).restartTag = s.restartTag := rfl
@[simp] theorem clearLatch_loader : (clearLatch s).loader = s.loader := rfl
@[simp] theorem clearLatch_failing : (clearLatch s).failing = s.failing := rfl
@[simp] theorem clearLatch_reports : (clearLatch s).reports = { s.reports with latch := none } := rfl
end

/-! ### updateLoader -/

section
variable (f : Loader → Loader) (s : State)
@[simp] theorem updateLoader_pending : (updateLoader f s).pending = s.pending := rfl
@[simp] theorem updateLoader_part : (updateLoader f s).part = s.part := rfl
@[simp] theorem updateLoader_prun : (updateLoader f s).prun = s.prun := rfl
@[simp] theorem updateLoader_straps : (updateLoader f s).straps = s.straps := rfl
@[simp] theorem updateLoader_now : (updateLoader f s).now = s.now := rfl
@[simp] theorem updateLoader_transit : (updateLoader f s).transit = s.transit := rfl
@[simp] theorem updateLoader_slots : (updateLoader f s).slots = s.slots := rfl
@[simp] theorem updateLoader_boxes : (updateLoader f s).boxes = s.boxes := rfl
@[simp] theorem updateLoader_lampMap : (updateLoader f s).lampMap = s.lampMap := rfl
@[simp] theorem updateLoader_deposit : (updateLoader f s).deposit = s.deposit := rfl
@[simp] theorem updateLoader_broadcasts : (updateLoader f s).broadcasts = s.broadcasts := rfl
@[simp] theorem updateLoader_calendar : (updateLoader f s).calendar = s.calendar := rfl
@[simp] theorem updateLoader_sweep : (updateLoader f s).sweep = s.sweep := rfl
@[simp] theorem updateLoader_greetings : (updateLoader f s).greetings = s.greetings := rfl
@[simp] theorem updateLoader_lamps : (updateLoader f s).lamps = s.lamps := rfl
@[simp] theorem updateLoader_control : (updateLoader f s).control = s.control := rfl
@[simp] theorem updateLoader_reports : (updateLoader f s).reports = s.reports := rfl
@[simp] theorem updateLoader_counts : (updateLoader f s).counts = s.counts := rfl
@[simp] theorem updateLoader_restartTag : (updateLoader f s).restartTag = s.restartTag := rfl
@[simp] theorem updateLoader_failing : (updateLoader f s).failing = s.failing := rfl
@[simp] theorem updateLoader_loader : (updateLoader f s).loader = s.loader.map f := rfl
end

/-! ### writeCalibration -/

section
variable (i : Nat) (c : Calibration) (s : State)
@[simp] theorem writeCalibration_pending : (writeCalibration i c s).pending = s.pending := rfl
@[simp] theorem writeCalibration_part : (writeCalibration i c s).part = s.part := rfl
@[simp] theorem writeCalibration_prun : (writeCalibration i c s).prun = s.prun := rfl
@[simp] theorem writeCalibration_straps : (writeCalibration i c s).straps = s.straps := rfl
@[simp] theorem writeCalibration_now : (writeCalibration i c s).now = s.now := rfl
@[simp] theorem writeCalibration_transit : (writeCalibration i c s).transit = s.transit := rfl
@[simp] theorem writeCalibration_slots : (writeCalibration i c s).slots = s.slots := rfl
@[simp] theorem writeCalibration_boxes : (writeCalibration i c s).boxes = s.boxes := rfl
@[simp] theorem writeCalibration_lampMap : (writeCalibration i c s).lampMap = s.lampMap := rfl
@[simp] theorem writeCalibration_broadcasts : (writeCalibration i c s).broadcasts = s.broadcasts := rfl
@[simp] theorem writeCalibration_calendar : (writeCalibration i c s).calendar = s.calendar := rfl
@[simp] theorem writeCalibration_sweep : (writeCalibration i c s).sweep = s.sweep := rfl
@[simp] theorem writeCalibration_greetings : (writeCalibration i c s).greetings = s.greetings := rfl
@[simp] theorem writeCalibration_lamps : (writeCalibration i c s).lamps = s.lamps := rfl
@[simp] theorem writeCalibration_control : (writeCalibration i c s).control = s.control := rfl
@[simp] theorem writeCalibration_reports : (writeCalibration i c s).reports = s.reports := rfl
@[simp] theorem writeCalibration_counts : (writeCalibration i c s).counts = s.counts := rfl
@[simp] theorem writeCalibration_restartTag : (writeCalibration i c s).restartTag = s.restartTag := rfl
@[simp] theorem writeCalibration_loader : (writeCalibration i c s).loader = s.loader := rfl
@[simp] theorem writeCalibration_failing : (writeCalibration i c s).failing = s.failing := rfl
@[simp] theorem writeCalibration_calibration :
    (writeCalibration i c s).deposit.calibration = s.deposit.calibration.setIfInBounds i c := rfl
@[simp] theorem writeCalibration_contexts : (writeCalibration i c s).deposit.contexts = s.deposit.contexts := rfl
@[simp] theorem writeCalibration_claims : (writeCalibration i c s).deposit.claims = s.deposit.claims := rfl
end

/-! ### writeBreaks -/

section
variable (rs : List DayRange) (s : State)
@[simp] theorem writeBreaks_pending : (writeBreaks rs s).pending = s.pending := rfl
@[simp] theorem writeBreaks_part : (writeBreaks rs s).part = s.part := rfl
@[simp] theorem writeBreaks_prun : (writeBreaks rs s).prun = s.prun := rfl
@[simp] theorem writeBreaks_straps : (writeBreaks rs s).straps = s.straps := rfl
@[simp] theorem writeBreaks_now : (writeBreaks rs s).now = s.now := rfl
@[simp] theorem writeBreaks_transit : (writeBreaks rs s).transit = s.transit := rfl
@[simp] theorem writeBreaks_slots : (writeBreaks rs s).slots = s.slots := rfl
@[simp] theorem writeBreaks_boxes : (writeBreaks rs s).boxes = s.boxes := rfl
@[simp] theorem writeBreaks_lampMap : (writeBreaks rs s).lampMap = s.lampMap := rfl
@[simp] theorem writeBreaks_deposit : (writeBreaks rs s).deposit = s.deposit := rfl
@[simp] theorem writeBreaks_broadcasts : (writeBreaks rs s).broadcasts = s.broadcasts := rfl
@[simp] theorem writeBreaks_calendar : (writeBreaks rs s).calendar = s.calendar := rfl
@[simp] theorem writeBreaks_sweep : (writeBreaks rs s).sweep = s.sweep := rfl
@[simp] theorem writeBreaks_lamps : (writeBreaks rs s).lamps = s.lamps := rfl
@[simp] theorem writeBreaks_control : (writeBreaks rs s).control = s.control := rfl
@[simp] theorem writeBreaks_reports : (writeBreaks rs s).reports = s.reports := rfl
@[simp] theorem writeBreaks_counts : (writeBreaks rs s).counts = s.counts := rfl
@[simp] theorem writeBreaks_restartTag : (writeBreaks rs s).restartTag = s.restartTag := rfl
@[simp] theorem writeBreaks_loader : (writeBreaks rs s).loader = s.loader := rfl
@[simp] theorem writeBreaks_failing : (writeBreaks rs s).failing = s.failing := rfl
@[simp] theorem writeBreaks_greetings : (writeBreaks rs s).greetings = { s.greetings with breaks := rs } := rfl
end

/-! ### writeSchedule -/

section
variable (i : Nat) (ws : List Window) (s : State)
@[simp] theorem writeSchedule_pending : (writeSchedule i ws s).pending = s.pending := rfl
@[simp] theorem writeSchedule_part : (writeSchedule i ws s).part = s.part := rfl
@[simp] theorem writeSchedule_prun : (writeSchedule i ws s).prun = s.prun := rfl
@[simp] theorem writeSchedule_straps : (writeSchedule i ws s).straps = s.straps := rfl
@[simp] theorem writeSchedule_now : (writeSchedule i ws s).now = s.now := rfl
@[simp] theorem writeSchedule_transit : (writeSchedule i ws s).transit = s.transit := rfl
@[simp] theorem writeSchedule_slots : (writeSchedule i ws s).slots = s.slots := rfl
@[simp] theorem writeSchedule_boxes : (writeSchedule i ws s).boxes = s.boxes := rfl
@[simp] theorem writeSchedule_lampMap : (writeSchedule i ws s).lampMap = s.lampMap := rfl
@[simp] theorem writeSchedule_deposit : (writeSchedule i ws s).deposit = s.deposit := rfl
@[simp] theorem writeSchedule_broadcasts : (writeSchedule i ws s).broadcasts = s.broadcasts := rfl
@[simp] theorem writeSchedule_calendar : (writeSchedule i ws s).calendar = s.calendar := rfl
@[simp] theorem writeSchedule_sweep : (writeSchedule i ws s).sweep = s.sweep := rfl
@[simp] theorem writeSchedule_lamps : (writeSchedule i ws s).lamps = s.lamps := rfl
@[simp] theorem writeSchedule_control : (writeSchedule i ws s).control = s.control := rfl
@[simp] theorem writeSchedule_reports : (writeSchedule i ws s).reports = s.reports := rfl
@[simp] theorem writeSchedule_counts : (writeSchedule i ws s).counts = s.counts := rfl
@[simp] theorem writeSchedule_restartTag : (writeSchedule i ws s).restartTag = s.restartTag := rfl
@[simp] theorem writeSchedule_loader : (writeSchedule i ws s).loader = s.loader := rfl
@[simp] theorem writeSchedule_failing : (writeSchedule i ws s).failing = s.failing := rfl
@[simp] theorem writeSchedule_greetings : (writeSchedule i ws s).greetings =
    { s.greetings with schedules := s.greetings.schedules.setIfInBounds i ws } := rfl
end

end Sys2Proof.Machine
end

