-- ==== Sys2Proof/Laws/Frames.lean ====
section
/-! SUPPORT. Which parts of State each shared operation leaves alone: one simp lemma an operation. -/

namespace Sys2Proof.Machine

theorem forEach_keeps {β : Type} (g : State → β) (f : Nat → State → State) (h : ∀ n s, g (f n s) = g s) :
    ∀ (l : List Nat) (s : State), g (forEach f l s) = g s
  | [], _ => rfl
  | n :: l, s => (forEach_keeps g f h l (f n s)).trans (h n s)

/-! ### Reports -/

@[simp] theorem dropHeld_fields (u : ReportUnit) :
    (dropHeld u).held = [] ∧ (dropHeld u).producer = u.producer ∧ (dropHeld u).consumer = u.consumer ∧
    (dropHeld u).writing = u.writing ∧ (dropHeld u).dropped = u.dropped ∧ (dropHeld u).latch = u.latch ∧
    (dropHeld u).base = u.base := ⟨rfl, rfl, rfl, rfl, rfl, rfl, rfl⟩

@[simp] theorem makeReport_keeps (b : ReportBody) (m n e : Option Nat) (t : Option (BitVec 32)) (s : State) :
    (makeReport b m n e t s).pending = s.pending ∧ (makeReport b m n e t s).part = s.part ∧
    (makeReport b m n e t s).prun = s.prun ∧ (makeReport b m n e t s).straps = s.straps ∧
    (makeReport b m n e t s).now = s.now ∧ (makeReport b m n e t s).transit = s.transit ∧
    (makeReport b m n e t s).slots = s.slots ∧ (makeReport b m n e t s).boxes = s.boxes ∧
    (makeReport b m n e t s).lampMap = s.lampMap ∧ (makeReport b m n e t s).deposit = s.deposit ∧
    (makeReport b m n e t s).broadcasts = s.broadcasts ∧ (makeReport b m n e t s).calendar = s.calendar ∧
    (makeReport b m n e t s).sweep = s.sweep ∧ (makeReport b m n e t s).greetings = s.greetings ∧
    (makeReport b m n e t s).lamps = s.lamps ∧ (makeReport b m n e t s).control = s.control ∧
    (makeReport b m n e t s).counts = s.counts ∧ (makeReport b m n e t s).restartTag = s.restartTag ∧
    (makeReport b m n e t s).loader = s.loader ∧ (makeReport b m n e t s).failing = s.failing := by
  unfold makeReport
  (try dsimp only); (repeat' split) <;> simp

@[simp] theorem reportSlot_keeps (n owner : Nat) (bs : List ReportBody) (s : State) :
    (reportSlot n owner bs s).pending = s.pending ∧ (reportSlot n owner bs s).part = s.part ∧
    (reportSlot n owner bs s).prun = s.prun ∧ (reportSlot n owner bs s).straps = s.straps ∧
    (reportSlot n owner bs s).now = s.now ∧ (reportSlot n owner bs s).transit = s.transit ∧
    (reportSlot n owner bs s).slots = s.slots ∧ (reportSlot n owner bs s).boxes = s.boxes ∧
    (reportSlot n owner bs s).lampMap = s.lampMap ∧ (reportSlot n owner bs s).deposit = s.deposit ∧
    (reportSlot n owner bs s).broadcasts = s.broadcasts ∧ (reportSlot n owner bs s).calendar = s.calendar ∧
    (reportSlot n owner bs s).sweep = s.sweep ∧ (reportSlot n owner bs s).greetings = s.greetings ∧
    (reportSlot n owner bs s).lamps = s.lamps ∧ (reportSlot n owner bs s).control = s.control ∧
    (reportSlot n owner bs s).counts = s.counts ∧ (reportSlot n owner bs s).restartTag = s.restartTag ∧
    (reportSlot n owner bs s).loader = s.loader ∧ (reportSlot n owner bs s).failing = s.failing := by
  induction bs generalizing s with
  | nil => simp [reportSlot]
  | cons b bs ih => simp [reportSlot, ih]

@[simp] theorem reportBox_keeps (m : Nat) (bs : List ReportBody) (s : State) :
    (reportBox m bs s).pending = s.pending ∧ (reportBox m bs s).part = s.part ∧ (reportBox m bs s).prun = s.prun ∧
    (reportBox m bs s).straps = s.straps ∧ (reportBox m bs s).now = s.now ∧
    (reportBox m bs s).transit = s.transit ∧ (reportBox m bs s).slots = s.slots ∧
    (reportBox m bs s).boxes = s.boxes ∧ (reportBox m bs s).lampMap = s.lampMap ∧
    (reportBox m bs s).deposit = s.deposit ∧ (reportBox m bs s).broadcasts = s.broadcasts ∧
    (reportBox m bs s).calendar = s.calendar ∧ (reportBox m bs s).sweep = s.sweep ∧
    (reportBox m bs s).greetings = s.greetings ∧ (reportBox m bs s).lamps = s.lamps ∧
    (reportBox m bs s).control = s.control ∧ (reportBox m bs s).counts = s.counts ∧
    (reportBox m bs s).restartTag = s.restartTag ∧ (reportBox m bs s).loader = s.loader ∧
    (reportBox m bs s).failing = s.failing := by
  induction bs generalizing s with
  | nil => simp [reportBox]
  | cons b bs ih => simp [reportBox, ih]

@[simp] theorem reportShelf_keeps (e : Nat) (b : ReportBody) (s : State) :
    (reportShelf e b s).pending = s.pending ∧ (reportShelf e b s).part = s.part ∧
    (reportShelf e b s).prun = s.prun ∧ (reportShelf e b s).straps = s.straps ∧ (reportShelf e b s).now = s.now ∧
    (reportShelf e b s).transit = s.transit ∧ (reportShelf e b s).slots = s.slots ∧
    (reportShelf e b s).boxes = s.boxes ∧ (reportShelf e b s).lampMap = s.lampMap ∧
    (reportShelf e b s).deposit = s.deposit ∧ (reportShelf e b s).broadcasts = s.broadcasts ∧
    (reportShelf e b s).calendar = s.calendar ∧ (reportShelf e b s).sweep = s.sweep ∧
    (reportShelf e b s).greetings = s.greetings ∧ (reportShelf e b s).lamps = s.lamps ∧
    (reportShelf e b s).control = s.control ∧ (reportShelf e b s).counts = s.counts ∧
    (reportShelf e b s).restartTag = s.restartTag ∧ (reportShelf e b s).loader = s.loader ∧
    (reportShelf e b s).failing = s.failing := by
  unfold reportShelf
  (try dsimp only); (repeat' split) <;> simp

@[simp] theorem commandDone_keeps (c : Command) (o : CommandOutcome) (k : Nat) (s : State) :
    (commandDone c o k s).pending = s.pending ∧ (commandDone c o k s).part = s.part ∧
    (commandDone c o k s).prun = s.prun ∧ (commandDone c o k s).straps = s.straps ∧
    (commandDone c o k s).now = s.now ∧ (commandDone c o k s).transit = s.transit ∧
    (commandDone c o k s).slots = s.slots ∧ (commandDone c o k s).boxes = s.boxes ∧
    (commandDone c o k s).lampMap = s.lampMap ∧ (commandDone c o k s).deposit = s.deposit ∧
    (commandDone c o k s).broadcasts = s.broadcasts ∧ (commandDone c o k s).calendar = s.calendar ∧
    (commandDone c o k s).sweep = s.sweep ∧ (commandDone c o k s).greetings = s.greetings ∧
    (commandDone c o k s).lamps = s.lamps ∧ (commandDone c o k s).control = s.control ∧
    (commandDone c o k s).counts = s.counts ∧ (commandDone c o k s).restartTag = s.restartTag ∧
    (commandDone c o k s).loader = s.loader ∧ (commandDone c o k s).failing = s.failing := by
  unfold commandDone
  (try dsimp only); (repeat' split) <;> simp

/-! ### Lamps and mailboxes -/

@[simp] theorem mapLamp_keeps (p : Nat) (m : Option LampMode) (s : State) :
    (mapLamp p m s).pending = s.pending ∧ (mapLamp p m s).part = s.part ∧ (mapLamp p m s).prun = s.prun ∧
    (mapLamp p m s).straps = s.straps ∧ (mapLamp p m s).now = s.now ∧ (mapLamp p m s).transit = s.transit ∧
    (mapLamp p m s).slots = s.slots ∧ (mapLamp p m s).boxes = s.boxes ∧ (mapLamp p m s).lampMap = s.lampMap ∧
    (mapLamp p m s).deposit = s.deposit ∧ (mapLamp p m s).broadcasts = s.broadcasts ∧
    (mapLamp p m s).calendar = s.calendar ∧ (mapLamp p m s).sweep = s.sweep ∧
    (mapLamp p m s).greetings = s.greetings ∧ (mapLamp p m s).control = s.control ∧
    (mapLamp p m s).reports = s.reports ∧ (mapLamp p m s).counts = s.counts ∧
    (mapLamp p m s).restartTag = s.restartTag ∧ (mapLamp p m s).loader = s.loader ∧
    (mapLamp p m s).failing = s.failing := by
  unfold mapLamp
  (try dsimp only); (repeat' split) <;> simp

@[simp] theorem recomposeAll_keeps (s : State) :
    (recomposeAll s).pending = s.pending ∧ (recomposeAll s).part = s.part ∧ (recomposeAll s).prun = s.prun ∧
    (recomposeAll s).straps = s.straps ∧ (recomposeAll s).now = s.now ∧ (recomposeAll s).transit = s.transit ∧
    (recomposeAll s).slots = s.slots ∧ (recomposeAll s).boxes = s.boxes ∧ (recomposeAll s).lampMap = s.lampMap ∧
    (recomposeAll s).deposit = s.deposit ∧ (recomposeAll s).broadcasts = s.broadcasts ∧
    (recomposeAll s).calendar = s.calendar ∧ (recomposeAll s).sweep = s.sweep ∧
    (recomposeAll s).greetings = s.greetings ∧ (recomposeAll s).control = s.control ∧
    (recomposeAll s).reports = s.reports ∧ (recomposeAll s).counts = s.counts ∧
    (recomposeAll s).restartTag = s.restartTag ∧ (recomposeAll s).loader = s.loader ∧
    (recomposeAll s).failing = s.failing := by
  unfold recomposeAll
  refine ⟨?_, ?_, ?_, ?_, ?_, ?_, ?_, ?_, ?_, ?_, ?_, ?_, ?_, ?_, ?_, ?_, ?_, ?_, ?_, ?_⟩
  · exact forEach_keeps (·.pending) _ (by intros; simp) _ _
  · exact forEach_keeps (·.part) _ (by intros; simp) _ _
  · exact forEach_keeps (·.prun) _ (by intros; simp) _ _
  · exact forEach_keeps (·.straps) _ (by intros; simp) _ _
  · exact forEach_keeps (·.now) _ (by intros; simp) _ _
  · exact forEach_keeps (·.transit) _ (by intros; simp) _ _
  · exact forEach_keeps (·.slots) _ (by intros; simp) _ _
  · exact forEach_keeps (·.boxes) _ (by intros; simp) _ _
  · exact forEach_keeps (·.lampMap) _ (by intros; simp) _ _
  · exact forEach_keeps (·.deposit) _ (by intros; simp) _ _
  · exact forEach_keeps (·.broadcasts) _ (by intros; simp) _ _
  · exact forEach_keeps (·.calendar) _ (by intros; simp) _ _
  · exact forEach_keeps (·.sweep) _ (by intros; simp) _ _
  · exact forEach_keeps (·.greetings) _ (by intros; simp) _ _
  · exact forEach_keeps (·.control) _ (by intros; simp) _ _
  · exact forEach_keeps (·.reports) _ (by intros; simp) _ _
  · exact forEach_keeps (·.counts) _ (by intros; simp) _ _
  · exact forEach_keeps (·.restartTag) _ (by intros; simp) _ _
  · exact forEach_keeps (·.loader) _ (by intros; simp) _ _
  · exact forEach_keeps (·.failing) _ (by intros; simp) _ _

@[simp] theorem settleBox_keeps (m : Nat) (b : MailboxRec) (s : State) :
    (settleBox m b s).pending = s.pending ∧ (settleBox m b s).part = s.part ∧ (settleBox m b s).prun = s.prun ∧
    (settleBox m b s).straps = s.straps ∧ (settleBox m b s).now = s.now ∧ (settleBox m b s).transit = s.transit ∧
    (settleBox m b s).slots = s.slots ∧ (settleBox m b s).lampMap = s.lampMap ∧
    (settleBox m b s).deposit = s.deposit ∧ (settleBox m b s).broadcasts = s.broadcasts ∧
    (settleBox m b s).calendar = s.calendar ∧ (settleBox m b s).sweep = s.sweep ∧
    (settleBox m b s).greetings = s.greetings ∧ (settleBox m b s).control = s.control ∧
    (settleBox m b s).reports = s.reports ∧ (settleBox m b s).counts = s.counts ∧
    (settleBox m b s).restartTag = s.restartTag ∧ (settleBox m b s).loader = s.loader ∧
    (settleBox m b s).failing = s.failing := by
  unfold settleBox
  (try dsimp only); (repeat' split) <;> simp

@[simp] theorem updateBox_keeps (m : Nat) (f : MailboxRec → MailboxRec) (s : State) :
    (updateBox m f s).pending = s.pending ∧ (updateBox m f s).part = s.part ∧ (updateBox m f s).prun = s.prun ∧
    (updateBox m f s).straps = s.straps ∧ (updateBox m f s).now = s.now ∧ (updateBox m f s).transit = s.transit ∧
    (updateBox m f s).slots = s.slots ∧ (updateBox m f s).lampMap = s.lampMap ∧
    (updateBox m f s).deposit = s.deposit ∧ (updateBox m f s).broadcasts = s.broadcasts ∧
    (updateBox m f s).calendar = s.calendar ∧ (updateBox m f s).sweep = s.sweep ∧
    (updateBox m f s).greetings = s.greetings ∧ (updateBox m f s).control = s.control ∧
    (updateBox m f s).reports = s.reports ∧ (updateBox m f s).counts = s.counts ∧
    (updateBox m f s).restartTag = s.restartTag ∧ (updateBox m f s).loader = s.loader ∧
    (updateBox m f s).failing = s.failing := by
  unfold updateBox
  (try dsimp only); (repeat' split) <;> simp

@[simp] theorem editBox_keeps (m : Nat) (f : MailboxRec → MailboxRec) (s : State) :
    (editBox m f s).pending = s.pending ∧ (editBox m f s).part = s.part ∧ (editBox m f s).prun = s.prun ∧
    (editBox m f s).straps = s.straps ∧ (editBox m f s).now = s.now ∧ (editBox m f s).transit = s.transit ∧
    (editBox m f s).slots = s.slots ∧ (editBox m f s).lampMap = s.lampMap ∧ (editBox m f s).deposit = s.deposit ∧
    (editBox m f s).broadcasts = s.broadcasts ∧ (editBox m f s).calendar = s.calendar ∧
    (editBox m f s).sweep = s.sweep ∧ (editBox m f s).greetings = s.greetings ∧ (editBox m f s).lamps = s.lamps ∧
    (editBox m f s).control = s.control ∧ (editBox m f s).reports = s.reports ∧ (editBox m f s).counts = s.counts ∧
    (editBox m f s).restartTag = s.restartTag ∧ (editBox m f s).loader = s.loader ∧
    (editBox m f s).failing = s.failing := by
  unfold editBox
  (try dsimp only); (repeat' split) <;> simp

@[simp] theorem changeSlot_keeps (n : Nat) (r : SlotRec) (s : State) :
    (changeSlot n r s).pending = s.pending ∧ (changeSlot n r s).part = s.part ∧ (changeSlot n r s).prun = s.prun ∧
    (changeSlot n r s).straps = s.straps ∧ (changeSlot n r s).now = s.now ∧
    (changeSlot n r s).transit = s.transit ∧ (changeSlot n r s).lampMap = s.lampMap ∧
    (changeSlot n r s).deposit = s.deposit ∧ (changeSlot n r s).broadcasts = s.broadcasts ∧
    (changeSlot n r s).calendar = s.calendar ∧ (changeSlot n r s).sweep = s.sweep ∧
    (changeSlot n r s).greetings = s.greetings ∧ (changeSlot n r s).control = s.control ∧
    (changeSlot n r s).reports = s.reports ∧ (changeSlot n r s).counts = s.counts ∧
    (changeSlot n r s).restartTag = s.restartTag ∧ (changeSlot n r s).loader = s.loader ∧
    (changeSlot n r s).failing = s.failing := by
  unfold changeSlot
  (try dsimp only); (repeat' split) <;> simp

/-! ### Broadcasts -/

@[simp] theorem forEach_updateBox_keeps (g : Nat → MailboxRec → MailboxRec) (l : List Nat) (s : State) :
    (forEach (fun m => updateBox m (g m)) l s).pending = s.pending ∧
    (forEach (fun m => updateBox m (g m)) l s).part = s.part ∧
    (forEach (fun m => updateBox m (g m)) l s).prun = s.prun ∧
    (forEach (fun m => updateBox m (g m)) l s).straps = s.straps ∧
    (forEach (fun m => updateBox m (g m)) l s).now = s.now ∧
    (forEach (fun m => updateBox m (g m)) l s).transit = s.transit ∧
    (forEach (fun m => updateBox m (g m)) l s).slots = s.slots ∧
    (forEach (fun m => updateBox m (g m)) l s).lampMap = s.lampMap ∧
    (forEach (fun m => updateBox m (g m)) l s).deposit = s.deposit ∧
    (forEach (fun m => updateBox m (g m)) l s).broadcasts = s.broadcasts ∧
    (forEach (fun m => updateBox m (g m)) l s).calendar = s.calendar ∧
    (forEach (fun m => updateBox m (g m)) l s).sweep = s.sweep ∧
    (forEach (fun m => updateBox m (g m)) l s).greetings = s.greetings ∧
    (forEach (fun m => updateBox m (g m)) l s).control = s.control ∧
    (forEach (fun m => updateBox m (g m)) l s).reports = s.reports ∧
    (forEach (fun m => updateBox m (g m)) l s).counts = s.counts ∧
    (forEach (fun m => updateBox m (g m)) l s).restartTag = s.restartTag ∧
    (forEach (fun m => updateBox m (g m)) l s).loader = s.loader ∧
    (forEach (fun m => updateBox m (g m)) l s).failing = s.failing :=
  ⟨forEach_keeps (·.pending) _ (by intros; simp) _ _,
   forEach_keeps (·.part) _ (by intros; simp) _ _,
   forEach_keeps (·.prun) _ (by intros; simp) _ _,
   forEach_keeps (·.straps) _ (by intros; simp) _ _,
   forEach_keeps (·.now) _ (by intros; simp) _ _,
   forEach_keeps (·.transit) _ (by intros; simp) _ _,
   forEach_keeps (·.slots) _ (by intros; simp) _ _,
   forEach_keeps (·.lampMap) _ (by intros; simp) _ _,
   forEach_keeps (·.deposit) _ (by intros; simp) _ _,
   forEach_keeps (·.broadcasts) _ (by intros; simp) _ _,
   forEach_keeps (·.calendar) _ (by intros; simp) _ _,
   forEach_keeps (·.sweep) _ (by intros; simp) _ _,
   forEach_keeps (·.greetings) _ (by intros; simp) _ _,
   forEach_keeps (·.control) _ (by intros; simp) _ _,
   forEach_keeps (·.reports) _ (by intros; simp) _ _,
   forEach_keeps (·.counts) _ (by intros; simp) _ _,
   forEach_keeps (·.restartTag) _ (by intros; simp) _ _,
   forEach_keeps (·.loader) _ (by intros; simp) _ _,
   forEach_keeps (·.failing) _ (by intros; simp) _ _⟩

@[simp] theorem endBroadcast_keeps (n : Nat) (r : EndReason) (m : Option Nat) (s : State) :
    (endBroadcast n r m s).pending = s.pending ∧ (endBroadcast n r m s).part = s.part ∧
    (endBroadcast n r m s).prun = s.prun ∧ (endBroadcast n r m s).straps = s.straps ∧
    (endBroadcast n r m s).now = s.now ∧ (endBroadcast n r m s).transit = s.transit ∧
    (endBroadcast n r m s).slots = s.slots ∧ (endBroadcast n r m s).lampMap = s.lampMap ∧
    (endBroadcast n r m s).deposit = s.deposit ∧ (endBroadcast n r m s).calendar = s.calendar ∧
    (endBroadcast n r m s).sweep = s.sweep ∧ (endBroadcast n r m s).greetings = s.greetings ∧
    (endBroadcast n r m s).control = s.control ∧ (endBroadcast n r m s).counts = s.counts ∧
    (endBroadcast n r m s).restartTag = s.restartTag ∧ (endBroadcast n r m s).loader = s.loader ∧
    (endBroadcast n r m s).failing = s.failing := by
  unfold endBroadcast
  simp [forEach_updateBox_keeps fun _ => uncountBroadcast (broadcastAt s n).urgent]

@[simp] theorem leaveBroadcast_keeps (n m : Nat) (s : State) :
    (leaveBroadcast n m s).pending = s.pending ∧ (leaveBroadcast n m s).part = s.part ∧
    (leaveBroadcast n m s).prun = s.prun ∧ (leaveBroadcast n m s).straps = s.straps ∧
    (leaveBroadcast n m s).now = s.now ∧ (leaveBroadcast n m s).transit = s.transit ∧
    (leaveBroadcast n m s).slots = s.slots ∧ (leaveBroadcast n m s).lampMap = s.lampMap ∧
    (leaveBroadcast n m s).deposit = s.deposit ∧ (leaveBroadcast n m s).calendar = s.calendar ∧
    (leaveBroadcast n m s).sweep = s.sweep ∧ (leaveBroadcast n m s).greetings = s.greetings ∧
    (leaveBroadcast n m s).control = s.control ∧ (leaveBroadcast n m s).counts = s.counts ∧
    (leaveBroadcast n m s).restartTag = s.restartTag ∧ (leaveBroadcast n m s).loader = s.loader ∧
    (leaveBroadcast n m s).failing = s.failing := by
  unfold leaveBroadcast
  (try dsimp only); (repeat' split) <;> simp

@[simp] theorem forEach_leaveBroadcast_keeps (m : Nat) (l : List Nat) (s : State) :
    (forEach (fun n => leaveBroadcast n m) l s).pending = s.pending ∧
    (forEach (fun n => leaveBroadcast n m) l s).part = s.part ∧
    (forEach (fun n => leaveBroadcast n m) l s).prun = s.prun ∧
    (forEach (fun n => leaveBroadcast n m) l s).straps = s.straps ∧
    (forEach (fun n => leaveBroadcast n m) l s).now = s.now ∧
    (forEach (fun n => leaveBroadcast n m) l s).transit = s.transit ∧
    (forEach (fun n => leaveBroadcast n m) l s).slots = s.slots ∧
    (forEach (fun n => leaveBroadcast n m) l s).lampMap = s.lampMap ∧
    (forEach (fun n => leaveBroadcast n m) l s).deposit = s.deposit ∧
    (forEach (fun n => leaveBroadcast n m) l s).calendar = s.calendar ∧
    (forEach (fun n => leaveBroadcast n m) l s).sweep = s.sweep ∧
    (forEach (fun n => leaveBroadcast n m) l s).greetings = s.greetings ∧
    (forEach (fun n => leaveBroadcast n m) l s).control = s.control ∧
    (forEach (fun n => leaveBroadcast n m) l s).counts = s.counts ∧
    (forEach (fun n => leaveBroadcast n m) l s).restartTag = s.restartTag ∧
    (forEach (fun n => leaveBroadcast n m) l s).loader = s.loader ∧
    (forEach (fun n => leaveBroadcast n m) l s).failing = s.failing :=
  ⟨forEach_keeps (·.pending) _ (by intros; simp) _ _,
   forEach_keeps (·.part) _ (by intros; simp) _ _,
   forEach_keeps (·.prun) _ (by intros; simp) _ _,
   forEach_keeps (·.straps) _ (by intros; simp) _ _,
   forEach_keeps (·.now) _ (by intros; simp) _ _,
   forEach_keeps (·.transit) _ (by intros; simp) _ _,
   forEach_keeps (·.slots) _ (by intros; simp) _ _,
   forEach_keeps (·.lampMap) _ (by intros; simp) _ _,
   forEach_keeps (·.deposit) _ (by intros; simp) _ _,
   forEach_keeps (·.calendar) _ (by intros; simp) _ _,
   forEach_keeps (·.sweep) _ (by intros; simp) _ _,
   forEach_keeps (·.greetings) _ (by intros; simp) _ _,
   forEach_keeps (·.control) _ (by intros; simp) _ _,
   forEach_keeps (·.counts) _ (by intros; simp) _ _,
   forEach_keeps (·.restartTag) _ (by intros; simp) _ _,
   forEach_keeps (·.loader) _ (by intros; simp) _ _,
   forEach_keeps (·.failing) _ (by intros; simp) _ _⟩

@[simp] theorem removeMember_keeps (m : Nat) (s : State) :
    (removeMember m s).pending = s.pending ∧ (removeMember m s).part = s.part ∧ (removeMember m s).prun = s.prun ∧
    (removeMember m s).straps = s.straps ∧ (removeMember m s).now = s.now ∧
    (removeMember m s).transit = s.transit ∧ (removeMember m s).slots = s.slots ∧
    (removeMember m s).lampMap = s.lampMap ∧ (removeMember m s).deposit = s.deposit ∧
    (removeMember m s).calendar = s.calendar ∧ (removeMember m s).sweep = s.sweep ∧
    (removeMember m s).greetings = s.greetings ∧ (removeMember m s).control = s.control ∧
    (removeMember m s).counts = s.counts ∧ (removeMember m s).restartTag = s.restartTag ∧
    (removeMember m s).loader = s.loader ∧ (removeMember m s).failing = s.failing := by
  unfold removeMember
  (try dsimp only); (repeat' split) <;> simp

@[simp] theorem postBroadcast_keeps (n : Nat) (ms : List Nat) (s : State) :
    (postBroadcast n ms s).pending = s.pending ∧ (postBroadcast n ms s).part = s.part ∧
    (postBroadcast n ms s).prun = s.prun ∧ (postBroadcast n ms s).straps = s.straps ∧
    (postBroadcast n ms s).now = s.now ∧ (postBroadcast n ms s).transit = s.transit ∧
    (postBroadcast n ms s).slots = s.slots ∧ (postBroadcast n ms s).lampMap = s.lampMap ∧
    (postBroadcast n ms s).deposit = s.deposit ∧ (postBroadcast n ms s).calendar = s.calendar ∧
    (postBroadcast n ms s).sweep = s.sweep ∧ (postBroadcast n ms s).greetings = s.greetings ∧
    (postBroadcast n ms s).control = s.control ∧ (postBroadcast n ms s).counts = s.counts ∧
    (postBroadcast n ms s).restartTag = s.restartTag ∧ (postBroadcast n ms s).loader = s.loader ∧
    (postBroadcast n ms s).failing = s.failing := by
  unfold postBroadcast
  (try dsimp only); split <;> simp [forEach_updateBox_keeps fun _ => countBroadcast (broadcastAt s n).urgent]

@[simp] theorem commandPost_keeps (c : Command) (n : Nat) (s : State) :
    (commandPost c n s).pending = s.pending ∧ (commandPost c n s).part = s.part ∧
    (commandPost c n s).prun = s.prun ∧ (commandPost c n s).straps = s.straps ∧ (commandPost c n s).now = s.now ∧
    (commandPost c n s).transit = s.transit ∧ (commandPost c n s).slots = s.slots ∧
    (commandPost c n s).lampMap = s.lampMap ∧ (commandPost c n s).deposit = s.deposit ∧
    (commandPost c n s).calendar = s.calendar ∧ (commandPost c n s).sweep = s.sweep ∧
    (commandPost c n s).greetings = s.greetings ∧ (commandPost c n s).control = s.control ∧
    (commandPost c n s).counts = s.counts ∧ (commandPost c n s).restartTag = s.restartTag ∧
    (commandPost c n s).loader = s.loader ∧ (commandPost c n s).failing = s.failing := by
  unfold commandPost
  (try dsimp only); (repeat' split) <;> simp

@[simp] theorem commandWithdraw_keeps (c : Command) (n : Nat) (s : State) :
    (commandWithdraw c n s).pending = s.pending ∧ (commandWithdraw c n s).part = s.part ∧
    (commandWithdraw c n s).prun = s.prun ∧ (commandWithdraw c n s).straps = s.straps ∧
    (commandWithdraw c n s).now = s.now ∧ (commandWithdraw c n s).transit = s.transit ∧
    (commandWithdraw c n s).slots = s.slots ∧ (commandWithdraw c n s).lampMap = s.lampMap ∧
    (commandWithdraw c n s).deposit = s.deposit ∧ (commandWithdraw c n s).calendar = s.calendar ∧
    (commandWithdraw c n s).sweep = s.sweep ∧ (commandWithdraw c n s).greetings = s.greetings ∧
    (commandWithdraw c n s).control = s.control ∧ (commandWithdraw c n s).counts = s.counts ∧
    (commandWithdraw c n s).restartTag = s.restartTag ∧ (commandWithdraw c n s).loader = s.loader ∧
    (commandWithdraw c n s).failing = s.failing := by
  unfold commandWithdraw
  (try dsimp only); (repeat' split) <;> simp

@[simp] theorem endDayClaim_keeps (d : Nat) (s : State) :
    (endDayClaim d s).pending = s.pending ∧ (endDayClaim d s).part = s.part ∧ (endDayClaim d s).prun = s.prun ∧
    (endDayClaim d s).straps = s.straps ∧ (endDayClaim d s).now = s.now ∧ (endDayClaim d s).transit = s.transit ∧
    (endDayClaim d s).slots = s.slots ∧ (endDayClaim d s).lampMap = s.lampMap ∧
    (endDayClaim d s).deposit = s.deposit ∧ (endDayClaim d s).calendar = s.calendar ∧
    (endDayClaim d s).sweep = s.sweep ∧ (endDayClaim d s).greetings = s.greetings ∧
    (endDayClaim d s).control = s.control ∧ (endDayClaim d s).counts = s.counts ∧
    (endDayClaim d s).restartTag = s.restartTag ∧ (endDayClaim d s).loader = s.loader ∧
    (endDayClaim d s).failing = s.failing := by
  unfold endDayClaim
  refine ⟨?_, ?_, ?_, ?_, ?_, ?_, ?_, ?_, ?_, ?_, ?_, ?_, ?_, ?_, ?_, ?_, ?_⟩
  · exact forEach_keeps (·.pending) _ (by intros; (repeat' split) <;> simp) _ _
  · exact forEach_keeps (·.part) _ (by intros; (repeat' split) <;> simp) _ _
  · exact forEach_keeps (·.prun) _ (by intros; (repeat' split) <;> simp) _ _
  · exact forEach_keeps (·.straps) _ (by intros; (repeat' split) <;> simp) _ _
  · exact forEach_keeps (·.now) _ (by intros; (repeat' split) <;> simp) _ _
  · exact forEach_keeps (·.transit) _ (by intros; (repeat' split) <;> simp) _ _
  · exact forEach_keeps (·.slots) _ (by intros; (repeat' split) <;> simp) _ _
  · exact forEach_keeps (·.lampMap) _ (by intros; (repeat' split) <;> simp) _ _
  · exact forEach_keeps (·.deposit) _ (by intros; (repeat' split) <;> simp) _ _
  · exact forEach_keeps (·.calendar) _ (by intros; (repeat' split) <;> simp) _ _
  · exact forEach_keeps (·.sweep) _ (by intros; (repeat' split) <;> simp) _ _
  · exact forEach_keeps (·.greetings) _ (by intros; (repeat' split) <;> simp) _ _
  · exact forEach_keeps (·.control) _ (by intros; (repeat' split) <;> simp) _ _
  · exact forEach_keeps (·.counts) _ (by intros; (repeat' split) <;> simp) _ _
  · exact forEach_keeps (·.restartTag) _ (by intros; (repeat' split) <;> simp) _ _
  · exact forEach_keeps (·.loader) _ (by intros; (repeat' split) <;> simp) _ _
  · exact forEach_keeps (·.failing) _ (by intros; (repeat' split) <;> simp) _ _

/-! ### Deposits -/

@[simp] theorem releaseSlot_keeps (r : SlotRec) (s : State) :
    (releaseSlot r s).pending = s.pending ∧ (releaseSlot r s).part = s.part ∧ (releaseSlot r s).prun = s.prun ∧
    (releaseSlot r s).straps = s.straps ∧ (releaseSlot r s).now = s.now ∧ (releaseSlot r s).transit = s.transit ∧
    (releaseSlot r s).slots = s.slots ∧ (releaseSlot r s).boxes = s.boxes ∧ (releaseSlot r s).lampMap = s.lampMap ∧
    (releaseSlot r s).broadcasts = s.broadcasts ∧ (releaseSlot r s).calendar = s.calendar ∧
    (releaseSlot r s).sweep = s.sweep ∧ (releaseSlot r s).greetings = s.greetings ∧
    (releaseSlot r s).lamps = s.lamps ∧ (releaseSlot r s).control = s.control ∧
    (releaseSlot r s).reports = s.reports ∧ (releaseSlot r s).counts = s.counts ∧
    (releaseSlot r s).restartTag = s.restartTag ∧ (releaseSlot r s).loader = s.loader ∧
    (releaseSlot r s).failing = s.failing := by
  unfold releaseSlot
  (try dsimp only); (repeat' split) <;> simp

@[simp] theorem audioMatched_keeps (k : Nat) (c : Context) (w : HostWrite) (s : State) :
    (audioMatched k c w s).pending = s.pending ∧ (audioMatched k c w s).part = s.part ∧
    (audioMatched k c w s).prun = s.prun ∧ (audioMatched k c w s).straps = s.straps ∧
    (audioMatched k c w s).now = s.now ∧ (audioMatched k c w s).transit.ctlSel = s.transit.ctlSel ∧
    (audioMatched k c w s).transit.regions = s.transit.regions ∧
    (audioMatched k c w s).transit.arrivals = s.transit.arrivals ∧
    (audioMatched k c w s).transit.turn = s.transit.turn ∧ (audioMatched k c w s).transit.order = s.transit.order ∧
    (audioMatched k c w s).transit.returned = s.transit.returned ∧ (audioMatched k c w s).slots = s.slots ∧
    (audioMatched k c w s).boxes = s.boxes ∧ (audioMatched k c w s).lampMap = s.lampMap ∧
    (audioMatched k c w s).broadcasts = s.broadcasts ∧ (audioMatched k c w s).calendar = s.calendar ∧
    (audioMatched k c w s).sweep = s.sweep ∧ (audioMatched k c w s).greetings = s.greetings ∧
    (audioMatched k c w s).lamps = s.lamps ∧ (audioMatched k c w s).control = s.control ∧
    (audioMatched k c w s).reports = s.reports ∧ (audioMatched k c w s).counts = s.counts ∧
    (audioMatched k c w s).restartTag = s.restartTag ∧ (audioMatched k c w s).loader = s.loader ∧
    (audioMatched k c w s).failing = s.failing := by
  unfold audioMatched
  (try dsimp only); (repeat' split) <;> simp

@[simp] theorem audioWrite_keeps (w : HostWrite) (s : State) :
    (audioWrite w s).pending = s.pending ∧ (audioWrite w s).part = s.part ∧ (audioWrite w s).prun = s.prun ∧
    (audioWrite w s).straps = s.straps ∧ (audioWrite w s).now = s.now ∧
    (audioWrite w s).transit.ctlSel = s.transit.ctlSel ∧ (audioWrite w s).transit.regions = s.transit.regions ∧
    (audioWrite w s).transit.arrivals = s.transit.arrivals ∧ (audioWrite w s).transit.turn = s.transit.turn ∧
    (audioWrite w s).transit.order = s.transit.order ∧ (audioWrite w s).transit.returned = s.transit.returned ∧
    (audioWrite w s).slots = s.slots ∧ (audioWrite w s).boxes = s.boxes ∧ (audioWrite w s).lampMap = s.lampMap ∧
    (audioWrite w s).broadcasts = s.broadcasts ∧ (audioWrite w s).calendar = s.calendar ∧
    (audioWrite w s).sweep = s.sweep ∧ (audioWrite w s).greetings = s.greetings ∧
    (audioWrite w s).lamps = s.lamps ∧ (audioWrite w s).control = s.control ∧
    (audioWrite w s).reports = s.reports ∧ (audioWrite w s).counts = s.counts ∧
    (audioWrite w s).restartTag = s.restartTag ∧ (audioWrite w s).loader = s.loader ∧
    (audioWrite w s).failing = s.failing := by
  unfold audioWrite
  (try dsimp only); (repeat' split) <;> simp

@[simp] theorem lapseContext_keeps (k : Nat) (s : State) :
    (lapseContext k s).pending = s.pending ∧ (lapseContext k s).part = s.part ∧ (lapseContext k s).prun = s.prun ∧
    (lapseContext k s).straps = s.straps ∧ (lapseContext k s).transit = s.transit ∧
    (lapseContext k s).slots = s.slots ∧ (lapseContext k s).boxes = s.boxes ∧
    (lapseContext k s).lampMap = s.lampMap ∧ (lapseContext k s).broadcasts = s.broadcasts ∧
    (lapseContext k s).calendar = s.calendar ∧ (lapseContext k s).sweep = s.sweep ∧
    (lapseContext k s).greetings = s.greetings ∧ (lapseContext k s).lamps = s.lamps ∧
    (lapseContext k s).control = s.control ∧ (lapseContext k s).reports = s.reports ∧
    (lapseContext k s).counts = s.counts ∧ (lapseContext k s).restartTag = s.restartTag ∧
    (lapseContext k s).loader = s.loader ∧ (lapseContext k s).failing = s.failing := by
  unfold lapseContext
  (try dsimp only); (repeat' split) <;> simp

@[simp] theorem timeoutTaken_keeps (c : TimeoutClaim) (s : State) :
    (timeoutTaken c s).pending = s.pending ∧ (timeoutTaken c s).part = s.part ∧ (timeoutTaken c s).prun = s.prun ∧
    (timeoutTaken c s).straps = s.straps ∧ (timeoutTaken c s).now = s.now ∧
    (timeoutTaken c s).transit.ctlSel = s.transit.ctlSel ∧ (timeoutTaken c s).transit.regions = s.transit.regions ∧
    (timeoutTaken c s).transit.arrivals = s.transit.arrivals ∧ (timeoutTaken c s).transit.turn = s.transit.turn ∧
    (timeoutTaken c s).transit.order = s.transit.order ∧ (timeoutTaken c s).transit.returned = s.transit.returned ∧
    (timeoutTaken c s).lampMap = s.lampMap ∧ (timeoutTaken c s).broadcasts = s.broadcasts ∧
    (timeoutTaken c s).calendar = s.calendar ∧ (timeoutTaken c s).sweep = s.sweep ∧
    (timeoutTaken c s).greetings = s.greetings ∧ (timeoutTaken c s).control = s.control ∧
    (timeoutTaken c s).counts = s.counts ∧ (timeoutTaken c s).restartTag = s.restartTag ∧
    (timeoutTaken c s).loader = s.loader ∧ (timeoutTaken c s).failing = s.failing := by
  unfold timeoutTaken
  (try dsimp only); (repeat' split) <;> simp

/-! ### Slot records -/

@[simp] theorem refuseBytes_keeps (o z : Nat) (c : ReportBody) (j : SlotWork) :
    (refuseBytes o z c j).state.pending = j.state.pending ∧ (refuseBytes o z c j).state.part = j.state.part ∧
    (refuseBytes o z c j).state.prun = j.state.prun ∧ (refuseBytes o z c j).state.straps = j.state.straps ∧
    (refuseBytes o z c j).state.now = j.state.now ∧ (refuseBytes o z c j).state.transit = j.state.transit ∧
    (refuseBytes o z c j).state.slots = j.state.slots ∧ (refuseBytes o z c j).state.boxes = j.state.boxes ∧
    (refuseBytes o z c j).state.lampMap = j.state.lampMap ∧ (refuseBytes o z c j).state.deposit = j.state.deposit ∧
    (refuseBytes o z c j).state.broadcasts = j.state.broadcasts ∧ (refuseBytes o z c j).state.calendar = j.state.calendar ∧
    (refuseBytes o z c j).state.sweep = j.state.sweep ∧ (refuseBytes o z c j).state.greetings = j.state.greetings ∧
    (refuseBytes o z c j).state.lamps = j.state.lamps ∧ (refuseBytes o z c j).state.control = j.state.control ∧
    (refuseBytes o z c j).state.reports = j.state.reports ∧ (refuseBytes o z c j).state.counts = j.state.counts ∧
    (refuseBytes o z c j).state.restartTag = j.state.restartTag ∧ (refuseBytes o z c j).state.loader = j.state.loader ∧
    (refuseBytes o z c j).state.failing = j.state.failing := by
  unfold refuseBytes
  (try dsimp only); (repeat' split) <;> simp

@[simp] theorem judgeIdentity_keeps (n o z h : Nat) (g : Nat → Bool) (a b : ReportBody) (p : Nat → SlotRec → SlotRec) (j : SlotWork) :
    (judgeIdentity n o z h g a b p j).state.pending = j.state.pending ∧
    (judgeIdentity n o z h g a b p j).state.part = j.state.part ∧ (judgeIdentity n o z h g a b p j).state.prun = j.state.prun ∧
    (judgeIdentity n o z h g a b p j).state.straps = j.state.straps ∧
    (judgeIdentity n o z h g a b p j).state.now = j.state.now ∧
    (judgeIdentity n o z h g a b p j).state.transit = j.state.transit ∧
    (judgeIdentity n o z h g a b p j).state.lampMap = j.state.lampMap ∧
    (judgeIdentity n o z h g a b p j).state.deposit = j.state.deposit ∧
    (judgeIdentity n o z h g a b p j).state.broadcasts = j.state.broadcasts ∧
    (judgeIdentity n o z h g a b p j).state.calendar = j.state.calendar ∧
    (judgeIdentity n o z h g a b p j).state.sweep = j.state.sweep ∧
    (judgeIdentity n o z h g a b p j).state.greetings = j.state.greetings ∧
    (judgeIdentity n o z h g a b p j).state.control = j.state.control ∧
    (judgeIdentity n o z h g a b p j).state.reports = j.state.reports ∧
    (judgeIdentity n o z h g a b p j).state.counts = j.state.counts ∧
    (judgeIdentity n o z h g a b p j).state.restartTag = j.state.restartTag ∧
    (judgeIdentity n o z h g a b p j).state.loader = j.state.loader ∧
    (judgeIdentity n o z h g a b p j).state.failing = j.state.failing := by
  unfold judgeIdentity
  (try dsimp only); (repeat' split) <;> simp

@[simp] theorem judgeOwner_keeps (n : Nat) (j : SlotWork) :
    (judgeOwner n j).state.pending = j.state.pending ∧ (judgeOwner n j).state.part = j.state.part ∧
    (judgeOwner n j).state.prun = j.state.prun ∧ (judgeOwner n j).state.straps = j.state.straps ∧
    (judgeOwner n j).state.now = j.state.now ∧ (judgeOwner n j).state.transit = j.state.transit ∧
    (judgeOwner n j).state.lampMap = j.state.lampMap ∧ (judgeOwner n j).state.deposit = j.state.deposit ∧
    (judgeOwner n j).state.broadcasts = j.state.broadcasts ∧ (judgeOwner n j).state.calendar = j.state.calendar ∧
    (judgeOwner n j).state.sweep = j.state.sweep ∧ (judgeOwner n j).state.greetings = j.state.greetings ∧
    (judgeOwner n j).state.control = j.state.control ∧ (judgeOwner n j).state.reports = j.state.reports ∧
    (judgeOwner n j).state.counts = j.state.counts ∧ (judgeOwner n j).state.restartTag = j.state.restartTag ∧
    (judgeOwner n j).state.loader = j.state.loader ∧ (judgeOwner n j).state.failing = j.state.failing := by
  unfold judgeOwner
  (try dsimp only); (repeat' split) <;> simp

@[simp] theorem judgeSource_keeps (n : Nat) (j : SlotWork) :
    (judgeSource n j).state.pending = j.state.pending ∧ (judgeSource n j).state.part = j.state.part ∧
    (judgeSource n j).state.prun = j.state.prun ∧ (judgeSource n j).state.straps = j.state.straps ∧
    (judgeSource n j).state.now = j.state.now ∧ (judgeSource n j).state.transit = j.state.transit ∧
    (judgeSource n j).state.lampMap = j.state.lampMap ∧ (judgeSource n j).state.deposit = j.state.deposit ∧
    (judgeSource n j).state.broadcasts = j.state.broadcasts ∧ (judgeSource n j).state.calendar = j.state.calendar ∧
    (judgeSource n j).state.sweep = j.state.sweep ∧ (judgeSource n j).state.greetings = j.state.greetings ∧
    (judgeSource n j).state.control = j.state.control ∧ (judgeSource n j).state.reports = j.state.reports ∧
    (judgeSource n j).state.counts = j.state.counts ∧ (judgeSource n j).state.restartTag = j.state.restartTag ∧
    (judgeSource n j).state.loader = j.state.loader ∧ (judgeSource n j).state.failing = j.state.failing := by
  unfold judgeSource
  (try dsimp only); (repeat' split) <;> simp

@[simp] theorem judgeFirstBlock_keeps (n : Nat) (j : SlotWork) :
    (judgeFirstBlock n j).state.pending = j.state.pending ∧ (judgeFirstBlock n j).state.part = j.state.part ∧
    (judgeFirstBlock n j).state.prun = j.state.prun ∧ (judgeFirstBlock n j).state.straps = j.state.straps ∧
    (judgeFirstBlock n j).state.now = j.state.now ∧ (judgeFirstBlock n j).state.transit = j.state.transit ∧
    (judgeFirstBlock n j).state.lampMap = j.state.lampMap ∧ (judgeFirstBlock n j).state.deposit = j.state.deposit ∧
    (judgeFirstBlock n j).state.broadcasts = j.state.broadcasts ∧ (judgeFirstBlock n j).state.calendar = j.state.calendar ∧
    (judgeFirstBlock n j).state.sweep = j.state.sweep ∧ (judgeFirstBlock n j).state.greetings = j.state.greetings ∧
    (judgeFirstBlock n j).state.control = j.state.control ∧ (judgeFirstBlock n j).state.reports = j.state.reports ∧
    (judgeFirstBlock n j).state.counts = j.state.counts ∧ (judgeFirstBlock n j).state.restartTag = j.state.restartTag ∧
    (judgeFirstBlock n j).state.loader = j.state.loader ∧ (judgeFirstBlock n j).state.failing = j.state.failing := by
  unfold judgeFirstBlock
  (try dsimp only); (repeat' split) <;> simp

@[simp] theorem judgeUrgent_keeps (n : Nat) (j : SlotWork) :
    (judgeUrgent n j).state.pending = j.state.pending ∧ (judgeUrgent n j).state.part = j.state.part ∧
    (judgeUrgent n j).state.prun = j.state.prun ∧ (judgeUrgent n j).state.straps = j.state.straps ∧
    (judgeUrgent n j).state.now = j.state.now ∧ (judgeUrgent n j).state.transit = j.state.transit ∧
    (judgeUrgent n j).state.lampMap = j.state.lampMap ∧ (judgeUrgent n j).state.deposit = j.state.deposit ∧
    (judgeUrgent n j).state.broadcasts = j.state.broadcasts ∧ (judgeUrgent n j).state.calendar = j.state.calendar ∧
    (judgeUrgent n j).state.sweep = j.state.sweep ∧ (judgeUrgent n j).state.greetings = j.state.greetings ∧
    (judgeUrgent n j).state.control = j.state.control ∧ (judgeUrgent n j).state.reports = j.state.reports ∧
    (judgeUrgent n j).state.counts = j.state.counts ∧ (judgeUrgent n j).state.restartTag = j.state.restartTag ∧
    (judgeUrgent n j).state.loader = j.state.loader ∧ (judgeUrgent n j).state.failing = j.state.failing := by
  unfold judgeUrgent
  (try dsimp only); (repeat' split) <;> simp

@[simp] theorem slotClaim_keeps (n : Nat) (j : SlotWork) :
    (slotClaim n j).state.pending = j.state.pending ∧ (slotClaim n j).state.part = j.state.part ∧
    (slotClaim n j).state.prun = j.state.prun ∧ (slotClaim n j).state.straps = j.state.straps ∧
    (slotClaim n j).state.now = j.state.now ∧ (slotClaim n j).state.transit = j.state.transit ∧
    (slotClaim n j).state.lampMap = j.state.lampMap ∧ (slotClaim n j).state.broadcasts = j.state.broadcasts ∧
    (slotClaim n j).state.calendar = j.state.calendar ∧ (slotClaim n j).state.sweep = j.state.sweep ∧
    (slotClaim n j).state.greetings = j.state.greetings ∧ (slotClaim n j).state.control = j.state.control ∧
    (slotClaim n j).state.reports = j.state.reports ∧ (slotClaim n j).state.counts = j.state.counts ∧
    (slotClaim n j).state.restartTag = j.state.restartTag ∧ (slotClaim n j).state.loader = j.state.loader ∧
    (slotClaim n j).state.failing = j.state.failing := by
  unfold slotClaim
  (try dsimp only); (repeat' split) <;> simp

@[simp] theorem slotCommit_keeps (n : Nat) (j : SlotWork) :
    (slotCommit n j).state.pending = j.state.pending ∧ (slotCommit n j).state.part = j.state.part ∧
    (slotCommit n j).state.prun = j.state.prun ∧ (slotCommit n j).state.straps = j.state.straps ∧
    (slotCommit n j).state.now = j.state.now ∧ (slotCommit n j).state.transit = j.state.transit ∧
    (slotCommit n j).state.lampMap = j.state.lampMap ∧ (slotCommit n j).state.broadcasts = j.state.broadcasts ∧
    (slotCommit n j).state.calendar = j.state.calendar ∧ (slotCommit n j).state.sweep = j.state.sweep ∧
    (slotCommit n j).state.greetings = j.state.greetings ∧ (slotCommit n j).state.control = j.state.control ∧
    (slotCommit n j).state.reports = j.state.reports ∧ (slotCommit n j).state.counts = j.state.counts ∧
    (slotCommit n j).state.restartTag = j.state.restartTag ∧ (slotCommit n j).state.loader = j.state.loader ∧
    (slotCommit n j).state.failing = j.state.failing := by
  unfold slotCommit
  (try dsimp only); (repeat' split) <;> simp

@[simp] theorem slotAbandon_keeps (n : Nat) (j : SlotWork) :
    (slotAbandon n j).state.pending = j.state.pending ∧ (slotAbandon n j).state.part = j.state.part ∧
    (slotAbandon n j).state.prun = j.state.prun ∧ (slotAbandon n j).state.straps = j.state.straps ∧
    (slotAbandon n j).state.now = j.state.now ∧ (slotAbandon n j).state.transit = j.state.transit ∧
    (slotAbandon n j).state.lampMap = j.state.lampMap ∧ (slotAbandon n j).state.broadcasts = j.state.broadcasts ∧
    (slotAbandon n j).state.calendar = j.state.calendar ∧ (slotAbandon n j).state.sweep = j.state.sweep ∧
    (slotAbandon n j).state.greetings = j.state.greetings ∧ (slotAbandon n j).state.control = j.state.control ∧
    (slotAbandon n j).state.reports = j.state.reports ∧ (slotAbandon n j).state.counts = j.state.counts ∧
    (slotAbandon n j).state.restartTag = j.state.restartTag ∧ (slotAbandon n j).state.loader = j.state.loader ∧
    (slotAbandon n j).state.failing = j.state.failing := by
  unfold slotAbandon
  (try dsimp only); (repeat' split) <;> simp

@[simp] theorem slotMove_keeps (n : Nat) (target : SlotState) (j : SlotWork) :
    (slotMove n target j).state.pending = j.state.pending ∧ (slotMove n target j).state.part = j.state.part ∧
    (slotMove n target j).state.prun = j.state.prun ∧ (slotMove n target j).state.straps = j.state.straps ∧
    (slotMove n target j).state.now = j.state.now ∧ (slotMove n target j).state.transit = j.state.transit ∧
    (slotMove n target j).state.lampMap = j.state.lampMap ∧ (slotMove n target j).state.deposit = j.state.deposit ∧
    (slotMove n target j).state.broadcasts = j.state.broadcasts ∧ (slotMove n target j).state.calendar = j.state.calendar ∧
    (slotMove n target j).state.sweep = j.state.sweep ∧ (slotMove n target j).state.greetings = j.state.greetings ∧
    (slotMove n target j).state.control = j.state.control ∧ (slotMove n target j).state.reports = j.state.reports ∧
    (slotMove n target j).state.counts = j.state.counts ∧ (slotMove n target j).state.restartTag = j.state.restartTag ∧
    (slotMove n target j).state.loader = j.state.loader ∧ (slotMove n target j).state.failing = j.state.failing := by
  unfold slotMove
  (try dsimp only); (repeat' split) <;> simp

@[simp] theorem slotDelete_keeps (n : Nat) (j : SlotWork) :
    (slotDelete n j).state.pending = j.state.pending ∧ (slotDelete n j).state.part = j.state.part ∧
    (slotDelete n j).state.prun = j.state.prun ∧ (slotDelete n j).state.straps = j.state.straps ∧
    (slotDelete n j).state.now = j.state.now ∧ (slotDelete n j).state.transit = j.state.transit ∧
    (slotDelete n j).state.lampMap = j.state.lampMap ∧ (slotDelete n j).state.deposit = j.state.deposit ∧
    (slotDelete n j).state.broadcasts = j.state.broadcasts ∧ (slotDelete n j).state.calendar = j.state.calendar ∧
    (slotDelete n j).state.sweep = j.state.sweep ∧ (slotDelete n j).state.greetings = j.state.greetings ∧
    (slotDelete n j).state.control = j.state.control ∧ (slotDelete n j).state.reports = j.state.reports ∧
    (slotDelete n j).state.counts = j.state.counts ∧ (slotDelete n j).state.restartTag = j.state.restartTag ∧
    (slotDelete n j).state.loader = j.state.loader ∧ (slotDelete n j).state.failing = j.state.failing := by
  unfold slotDelete
  (try dsimp only); (repeat' split) <;> simp

@[simp] theorem slotRefusal_keeps (n c : Nat) (j : SlotWork) :
    (slotRefusal n c j).state.pending = j.state.pending ∧ (slotRefusal n c j).state.part = j.state.part ∧
    (slotRefusal n c j).state.prun = j.state.prun ∧ (slotRefusal n c j).state.straps = j.state.straps ∧
    (slotRefusal n c j).state.now = j.state.now ∧ (slotRefusal n c j).state.transit = j.state.transit ∧
    (slotRefusal n c j).state.slots = j.state.slots ∧ (slotRefusal n c j).state.boxes = j.state.boxes ∧
    (slotRefusal n c j).state.lampMap = j.state.lampMap ∧ (slotRefusal n c j).state.deposit = j.state.deposit ∧
    (slotRefusal n c j).state.broadcasts = j.state.broadcasts ∧ (slotRefusal n c j).state.calendar = j.state.calendar ∧
    (slotRefusal n c j).state.sweep = j.state.sweep ∧ (slotRefusal n c j).state.greetings = j.state.greetings ∧
    (slotRefusal n c j).state.lamps = j.state.lamps ∧ (slotRefusal n c j).state.control = j.state.control ∧
    (slotRefusal n c j).state.reports = j.state.reports ∧ (slotRefusal n c j).state.counts = j.state.counts ∧
    (slotRefusal n c j).state.restartTag = j.state.restartTag ∧ (slotRefusal n c j).state.loader = j.state.loader ∧
    (slotRefusal n c j).state.failing = j.state.failing := by
  unfold slotRefusal
  (try dsimp only); (repeat' split) <;> simp

@[simp] theorem slotTransition_keeps (n c : Nat) (j : SlotWork) :
    (slotTransition n c j).state.pending = j.state.pending ∧ (slotTransition n c j).state.part = j.state.part ∧
    (slotTransition n c j).state.prun = j.state.prun ∧ (slotTransition n c j).state.straps = j.state.straps ∧
    (slotTransition n c j).state.now = j.state.now ∧ (slotTransition n c j).state.transit = j.state.transit ∧
    (slotTransition n c j).state.lampMap = j.state.lampMap ∧ (slotTransition n c j).state.broadcasts = j.state.broadcasts ∧
    (slotTransition n c j).state.calendar = j.state.calendar ∧ (slotTransition n c j).state.sweep = j.state.sweep ∧
    (slotTransition n c j).state.greetings = j.state.greetings ∧ (slotTransition n c j).state.control = j.state.control ∧
    (slotTransition n c j).state.reports = j.state.reports ∧ (slotTransition n c j).state.counts = j.state.counts ∧
    (slotTransition n c j).state.restartTag = j.state.restartTag ∧ (slotTransition n c j).state.loader = j.state.loader ∧
    (slotTransition n c j).state.failing = j.state.failing := by
  unfold slotTransition
  (try dsimp only); (repeat' split) <;> simp

@[simp] theorem judgeState_keeps (n : Nat) (j : SlotWork) :
    (judgeState n j).state.pending = j.state.pending ∧ (judgeState n j).state.part = j.state.part ∧
    (judgeState n j).state.prun = j.state.prun ∧ (judgeState n j).state.straps = j.state.straps ∧
    (judgeState n j).state.now = j.state.now ∧ (judgeState n j).state.transit = j.state.transit ∧
    (judgeState n j).state.lampMap = j.state.lampMap ∧ (judgeState n j).state.broadcasts = j.state.broadcasts ∧
    (judgeState n j).state.calendar = j.state.calendar ∧ (judgeState n j).state.sweep = j.state.sweep ∧
    (judgeState n j).state.greetings = j.state.greetings ∧ (judgeState n j).state.control = j.state.control ∧
    (judgeState n j).state.reports = j.state.reports ∧ (judgeState n j).state.counts = j.state.counts ∧
    (judgeState n j).state.restartTag = j.state.restartTag ∧ (judgeState n j).state.loader = j.state.loader ∧
    (judgeState n j).state.failing = j.state.failing := by
  unfold judgeState
  (try dsimp only); (repeat' split) <;> simp

@[simp] theorem withholdOwn_state (j : SlotWork) : (withholdOwn j).state = j.state := rfl

@[simp] theorem judgeSlot_keeps (n : Nat) (ls : List Lane) (s : State) :
    (judgeSlot n ls s).state.pending = s.pending ∧ (judgeSlot n ls s).state.part = s.part ∧
    (judgeSlot n ls s).state.prun = s.prun ∧ (judgeSlot n ls s).state.straps = s.straps ∧
    (judgeSlot n ls s).state.now = s.now ∧ (judgeSlot n ls s).state.transit = s.transit ∧
    (judgeSlot n ls s).state.lampMap = s.lampMap ∧ (judgeSlot n ls s).state.broadcasts = s.broadcasts ∧
    (judgeSlot n ls s).state.calendar = s.calendar ∧ (judgeSlot n ls s).state.sweep = s.sweep ∧
    (judgeSlot n ls s).state.greetings = s.greetings ∧ (judgeSlot n ls s).state.control = s.control ∧
    (judgeSlot n ls s).state.counts = s.counts ∧ (judgeSlot n ls s).state.restartTag = s.restartTag ∧
    (judgeSlot n ls s).state.loader = s.loader ∧ (judgeSlot n ls s).state.failing = s.failing := by
  simp [judgeSlot]

@[simp] theorem judgeSlots_keeps (first : Nat) (is : List Nat) (x : LineWork) :
    (judgeSlots first is x).state.pending = x.state.pending ∧ (judgeSlots first is x).state.part = x.state.part ∧
    (judgeSlots first is x).state.prun = x.state.prun ∧ (judgeSlots first is x).state.straps = x.state.straps ∧
    (judgeSlots first is x).state.now = x.state.now ∧ (judgeSlots first is x).state.transit = x.state.transit ∧
    (judgeSlots first is x).state.lampMap = x.state.lampMap ∧ (judgeSlots first is x).state.broadcasts = x.state.broadcasts ∧
    (judgeSlots first is x).state.calendar = x.state.calendar ∧ (judgeSlots first is x).state.sweep = x.state.sweep ∧
    (judgeSlots first is x).state.greetings = x.state.greetings ∧ (judgeSlots first is x).state.control = x.state.control ∧
    (judgeSlots first is x).state.counts = x.state.counts ∧ (judgeSlots first is x).state.restartTag = x.state.restartTag ∧
    (judgeSlots first is x).state.loader = x.state.loader ∧ (judgeSlots first is x).state.failing = x.state.failing := by
  induction is generalizing x with
  | nil => simp [judgeSlots]
  | cons i is ih => simp [judgeSlots, ih]

@[simp] theorem slotDirWrite_keeps (base : Nat) (w : HostWrite) (s : State) :
    (slotDirWrite base w s).pending = s.pending ∧ (slotDirWrite base w s).part = s.part ∧
    (slotDirWrite base w s).prun = s.prun ∧ (slotDirWrite base w s).straps = s.straps ∧
    (slotDirWrite base w s).now = s.now ∧ (slotDirWrite base w s).transit.ctlSel = s.transit.ctlSel ∧
    (slotDirWrite base w s).transit.regions = s.transit.regions ∧
    (slotDirWrite base w s).transit.arrivals = s.transit.arrivals ∧
    (slotDirWrite base w s).transit.turn = s.transit.turn ∧
    (slotDirWrite base w s).transit.order = s.transit.order ∧
    (slotDirWrite base w s).transit.returned = s.transit.returned ∧ (slotDirWrite base w s).lampMap = s.lampMap ∧
    (slotDirWrite base w s).broadcasts = s.broadcasts ∧ (slotDirWrite base w s).calendar = s.calendar ∧
    (slotDirWrite base w s).sweep = s.sweep ∧ (slotDirWrite base w s).greetings = s.greetings ∧
    (slotDirWrite base w s).control = s.control ∧ (slotDirWrite base w s).counts = s.counts ∧
    (slotDirWrite base w s).restartTag = s.restartTag ∧ (slotDirWrite base w s).loader = s.loader ∧
    (slotDirWrite base w s).failing = s.failing := by
  unfold slotDirWrite
  (try dsimp only); (repeat' split) <;> simp

@[simp] theorem slotDirRead_keeps (base : Nat) (r : HostRead) (s : State) :
    (slotDirRead base r s).pending = s.pending ∧ (slotDirRead base r s).part = s.part ∧
    (slotDirRead base r s).prun = s.prun ∧ (slotDirRead base r s).straps = s.straps ∧
    (slotDirRead base r s).now = s.now ∧ (slotDirRead base r s).transit.ctlSel = s.transit.ctlSel ∧
    (slotDirRead base r s).transit.regions = s.transit.regions ∧
    (slotDirRead base r s).transit.arrivals = s.transit.arrivals ∧
    (slotDirRead base r s).transit.turn = s.transit.turn ∧ (slotDirRead base r s).transit.order = s.transit.order ∧
    (slotDirRead base r s).transit.returned = s.transit.returned ∧ (slotDirRead base r s).slots = s.slots ∧
    (slotDirRead base r s).boxes = s.boxes ∧ (slotDirRead base r s).lampMap = s.lampMap ∧
    (slotDirRead base r s).deposit = s.deposit ∧ (slotDirRead base r s).broadcasts = s.broadcasts ∧
    (slotDirRead base r s).calendar = s.calendar ∧ (slotDirRead base r s).sweep = s.sweep ∧
    (slotDirRead base r s).greetings = s.greetings ∧ (slotDirRead base r s).lamps = s.lamps ∧
    (slotDirRead base r s).control = s.control ∧ (slotDirRead base r s).reports = s.reports ∧
    (slotDirRead base r s).counts = s.counts ∧ (slotDirRead base r s).restartTag = s.restartTag ∧
    (slotDirRead base r s).loader = s.loader ∧ (slotDirRead base r s).failing = s.failing := by
  unfold slotDirRead
  (try dsimp only); (repeat' split) <;> simp

@[simp] theorem expireSlot_keeps (n : Nat) (s : State) :
    (expireSlot n s).pending = s.pending ∧ (expireSlot n s).part = s.part ∧ (expireSlot n s).prun = s.prun ∧
    (expireSlot n s).straps = s.straps ∧ (expireSlot n s).now = s.now ∧
    (expireSlot n s).transit.ctlSel = s.transit.ctlSel ∧ (expireSlot n s).transit.regions = s.transit.regions ∧
    (expireSlot n s).transit.arrivals = s.transit.arrivals ∧ (expireSlot n s).transit.turn = s.transit.turn ∧
    (expireSlot n s).transit.order = s.transit.order ∧ (expireSlot n s).transit.returned = s.transit.returned ∧
    (expireSlot n s).lampMap = s.lampMap ∧ (expireSlot n s).deposit = s.deposit ∧
    (expireSlot n s).broadcasts = s.broadcasts ∧ (expireSlot n s).calendar = s.calendar ∧
    (expireSlot n s).sweep = s.sweep ∧ (expireSlot n s).greetings = s.greetings ∧
    (expireSlot n s).control = s.control ∧ (expireSlot n s).reports = s.reports ∧
    (expireSlot n s).counts = s.counts ∧ (expireSlot n s).restartTag = s.restartTag ∧
    (expireSlot n s).loader = s.loader ∧ (expireSlot n s).failing = s.failing := by
  unfold expireSlot
  (try dsimp only); (repeat' split) <;> simp

/-! ### Greetings -/

@[simp] theorem serveWindow_keeps (ps : List Piece) (p k : Nat) (s : State) :
    (serveWindow ps p k s).pending = s.pending ∧ (serveWindow ps p k s).part = s.part ∧
    (serveWindow ps p k s).prun = s.prun ∧ (serveWindow ps p k s).straps = s.straps ∧
    (serveWindow ps p k s).now = s.now ∧ (serveWindow ps p k s).transit.ctlSel = s.transit.ctlSel ∧
    (serveWindow ps p k s).transit.regions = s.transit.regions ∧
    (serveWindow ps p k s).transit.arrivals = s.transit.arrivals ∧
    (serveWindow ps p k s).transit.turn = s.transit.turn ∧
    (serveWindow ps p k s).transit.returned = s.transit.returned ∧ (serveWindow ps p k s).slots = s.slots ∧
    (serveWindow ps p k s).boxes = s.boxes ∧ (serveWindow ps p k s).lampMap = s.lampMap ∧
    (serveWindow ps p k s).deposit = s.deposit ∧ (serveWindow ps p k s).broadcasts = s.broadcasts ∧
    (serveWindow ps p k s).calendar = s.calendar ∧ (serveWindow ps p k s).sweep = s.sweep ∧
    (serveWindow ps p k s).greetings = s.greetings ∧ (serveWindow ps p k s).lamps = s.lamps ∧
    (serveWindow ps p k s).control = s.control ∧ (serveWindow ps p k s).reports = s.reports ∧
    (serveWindow ps p k s).counts = s.counts ∧ (serveWindow ps p k s).restartTag = s.restartTag ∧
    (serveWindow ps p k s).loader = s.loader ∧ (serveWindow ps p k s).failing = s.failing := by
  unfold serveWindow
  (try dsimp only); (repeat' split) <;> simp

@[simp] theorem playUnlatched_keeps (m l : Nat) (s : State) :
    (playUnlatched m l s).pending = s.pending ∧ (playUnlatched m l s).part = s.part ∧
    (playUnlatched m l s).prun = s.prun ∧ (playUnlatched m l s).straps = s.straps ∧
    (playUnlatched m l s).now = s.now ∧ (playUnlatched m l s).transit = s.transit ∧
    (playUnlatched m l s).slots = s.slots ∧ (playUnlatched m l s).boxes = s.boxes ∧
    (playUnlatched m l s).lampMap = s.lampMap ∧ (playUnlatched m l s).deposit = s.deposit ∧
    (playUnlatched m l s).broadcasts = s.broadcasts ∧ (playUnlatched m l s).calendar = s.calendar ∧
    (playUnlatched m l s).sweep = s.sweep ∧ (playUnlatched m l s).lamps = s.lamps ∧
    (playUnlatched m l s).control = s.control ∧ (playUnlatched m l s).counts = s.counts ∧
    (playUnlatched m l s).restartTag = s.restartTag ∧ (playUnlatched m l s).loader = s.loader ∧
    (playUnlatched m l s).failing = s.failing := by
  unfold playUnlatched
  (try dsimp only); (repeat' split) <;> simp

@[simp] theorem startPlay_keeps (m l : Nat) (g : Greeting) (w : ComposedWindow) (s : State) :
    (startPlay m l g w s).pending = s.pending ∧ (startPlay m l g w s).part = s.part ∧
    (startPlay m l g w s).prun = s.prun ∧ (startPlay m l g w s).straps = s.straps ∧
    (startPlay m l g w s).now = s.now ∧ (startPlay m l g w s).transit = s.transit ∧
    (startPlay m l g w s).slots = s.slots ∧ (startPlay m l g w s).boxes = s.boxes ∧
    (startPlay m l g w s).lampMap = s.lampMap ∧ (startPlay m l g w s).deposit = s.deposit ∧
    (startPlay m l g w s).broadcasts = s.broadcasts ∧ (startPlay m l g w s).calendar = s.calendar ∧
    (startPlay m l g w s).sweep = s.sweep ∧ (startPlay m l g w s).lamps = s.lamps ∧
    (startPlay m l g w s).control = s.control ∧ (startPlay m l g w s).counts = s.counts ∧
    (startPlay m l g w s).restartTag = s.restartTag ∧ (startPlay m l g w s).loader = s.loader ∧
    (startPlay m l g w s).failing = s.failing := by
  unfold startPlay
  (try dsimp only); (repeat' split) <;> simp

@[simp] theorem aliasStart_keeps (m l k : Nat) (s : State) :
    (aliasStart m l k s).pending = s.pending ∧ (aliasStart m l k s).part = s.part ∧
    (aliasStart m l k s).prun = s.prun ∧ (aliasStart m l k s).straps = s.straps ∧
    (aliasStart m l k s).now = s.now ∧ (aliasStart m l k s).transit.ctlSel = s.transit.ctlSel ∧
    (aliasStart m l k s).transit.regions = s.transit.regions ∧
    (aliasStart m l k s).transit.arrivals = s.transit.arrivals ∧
    (aliasStart m l k s).transit.turn = s.transit.turn ∧
    (aliasStart m l k s).transit.returned = s.transit.returned ∧ (aliasStart m l k s).slots = s.slots ∧
    (aliasStart m l k s).boxes = s.boxes ∧ (aliasStart m l k s).lampMap = s.lampMap ∧
    (aliasStart m l k s).deposit = s.deposit ∧ (aliasStart m l k s).broadcasts = s.broadcasts ∧
    (aliasStart m l k s).calendar = s.calendar ∧ (aliasStart m l k s).sweep = s.sweep ∧
    (aliasStart m l k s).lamps = s.lamps ∧ (aliasStart m l k s).control = s.control ∧
    (aliasStart m l k s).counts = s.counts ∧ (aliasStart m l k s).restartTag = s.restartTag ∧
    (aliasStart m l k s).loader = s.loader ∧ (aliasStart m l k s).failing = s.failing := by
  unfold aliasStart
  (try dsimp only); (repeat' split) <;> simp

@[simp] theorem aliasLatched_keeps (k : Nat) (l : Latch) (p n : Nat) (s : State) :
    (aliasLatched k l p n s).pending = s.pending ∧ (aliasLatched k l p n s).part = s.part ∧
    (aliasLatched k l p n s).prun = s.prun ∧ (aliasLatched k l p n s).straps = s.straps ∧
    (aliasLatched k l p n s).now = s.now ∧ (aliasLatched k l p n s).transit.ctlSel = s.transit.ctlSel ∧
    (aliasLatched k l p n s).transit.regions = s.transit.regions ∧
    (aliasLatched k l p n s).transit.arrivals = s.transit.arrivals ∧
    (aliasLatched k l p n s).transit.turn = s.transit.turn ∧
    (aliasLatched k l p n s).transit.returned = s.transit.returned ∧ (aliasLatched k l p n s).slots = s.slots ∧
    (aliasLatched k l p n s).boxes = s.boxes ∧ (aliasLatched k l p n s).lampMap = s.lampMap ∧
    (aliasLatched k l p n s).deposit = s.deposit ∧ (aliasLatched k l p n s).broadcasts = s.broadcasts ∧
    (aliasLatched k l p n s).calendar = s.calendar ∧ (aliasLatched k l p n s).sweep = s.sweep ∧
    (aliasLatched k l p n s).lamps = s.lamps ∧ (aliasLatched k l p n s).control = s.control ∧
    (aliasLatched k l p n s).reports = s.reports ∧ (aliasLatched k l p n s).counts = s.counts ∧
    (aliasLatched k l p n s).restartTag = s.restartTag ∧ (aliasLatched k l p n s).loader = s.loader ∧
    (aliasLatched k l p n s).failing = s.failing := by
  unfold aliasLatched
  (try dsimp only); (repeat' split) <;> simp

@[simp] theorem aliasContinue_keeps (m l p n : Nat) (s : State) :
    (aliasContinue m l p n s).pending = s.pending ∧ (aliasContinue m l p n s).part = s.part ∧
    (aliasContinue m l p n s).prun = s.prun ∧ (aliasContinue m l p n s).straps = s.straps ∧
    (aliasContinue m l p n s).now = s.now ∧ (aliasContinue m l p n s).transit.ctlSel = s.transit.ctlSel ∧
    (aliasContinue m l p n s).transit.regions = s.transit.regions ∧
    (aliasContinue m l p n s).transit.arrivals = s.transit.arrivals ∧
    (aliasContinue m l p n s).transit.turn = s.transit.turn ∧
    (aliasContinue m l p n s).transit.returned = s.transit.returned ∧ (aliasContinue m l p n s).slots = s.slots ∧
    (aliasContinue m l p n s).boxes = s.boxes ∧ (aliasContinue m l p n s).lampMap = s.lampMap ∧
    (aliasContinue m l p n s).deposit = s.deposit ∧ (aliasContinue m l p n s).broadcasts = s.broadcasts ∧
    (aliasContinue m l p n s).calendar = s.calendar ∧ (aliasContinue m l p n s).sweep = s.sweep ∧
    (aliasContinue m l p n s).lamps = s.lamps ∧ (aliasContinue m l p n s).control = s.control ∧
    (aliasContinue m l p n s).reports = s.reports ∧ (aliasContinue m l p n s).counts = s.counts ∧
    (aliasContinue m l p n s).restartTag = s.restartTag ∧ (aliasContinue m l p n s).loader = s.loader ∧
    (aliasContinue m l p n s).failing = s.failing := by
  unfold aliasContinue
  (try dsimp only); (repeat' split) <;> simp

@[simp] theorem readAlias_keeps (base : Nat) (r : HostRead) (s : State) :
    (readAlias base r s).pending = s.pending ∧ (readAlias base r s).part = s.part ∧
    (readAlias base r s).prun = s.prun ∧ (readAlias base r s).straps = s.straps ∧
    (readAlias base r s).now = s.now ∧ (readAlias base r s).transit.ctlSel = s.transit.ctlSel ∧
    (readAlias base r s).transit.regions = s.transit.regions ∧
    (readAlias base r s).transit.arrivals = s.transit.arrivals ∧
    (readAlias base r s).transit.turn = s.transit.turn ∧
    (readAlias base r s).transit.returned = s.transit.returned ∧ (readAlias base r s).slots = s.slots ∧
    (readAlias base r s).boxes = s.boxes ∧ (readAlias base r s).lampMap = s.lampMap ∧
    (readAlias base r s).deposit = s.deposit ∧ (readAlias base r s).broadcasts = s.broadcasts ∧
    (readAlias base r s).calendar = s.calendar ∧ (readAlias base r s).sweep = s.sweep ∧
    (readAlias base r s).lamps = s.lamps ∧ (readAlias base r s).control = s.control ∧
    (readAlias base r s).counts = s.counts ∧ (readAlias base r s).restartTag = s.restartTag ∧
    (readAlias base r s).loader = s.loader ∧ (readAlias base r s).failing = s.failing := by
  unfold readAlias
  (try dsimp only); (repeat' split) <;> simp

@[simp] theorem expireLatch_keeps (k : Nat) (s : State) :
    (expireLatch k s).pending = s.pending ∧ (expireLatch k s).part = s.part ∧ (expireLatch k s).prun = s.prun ∧
    (expireLatch k s).straps = s.straps ∧ (expireLatch k s).transit = s.transit ∧
    (expireLatch k s).slots = s.slots ∧ (expireLatch k s).boxes = s.boxes ∧ (expireLatch k s).lampMap = s.lampMap ∧
    (expireLatch k s).deposit = s.deposit ∧ (expireLatch k s).broadcasts = s.broadcasts ∧
    (expireLatch k s).calendar = s.calendar ∧ (expireLatch k s).sweep = s.sweep ∧
    (expireLatch k s).lamps = s.lamps ∧ (expireLatch k s).control = s.control ∧
    (expireLatch k s).reports = s.reports ∧ (expireLatch k s).counts = s.counts ∧
    (expireLatch k s).restartTag = s.restartTag ∧ (expireLatch k s).loader = s.loader ∧
    (expireLatch k s).failing = s.failing := by
  unfold expireLatch
  (try dsimp only); (repeat' split) <;> simp

/-! ### Mailbox records -/

@[simp] theorem refuseField_keeps (o z : Nat) (c : ReportBody) (j : BoxWork) :
    (refuseField o z c j).state.pending = j.state.pending ∧ (refuseField o z c j).state.part = j.state.part ∧
    (refuseField o z c j).state.prun = j.state.prun ∧ (refuseField o z c j).state.straps = j.state.straps ∧
    (refuseField o z c j).state.now = j.state.now ∧ (refuseField o z c j).state.transit = j.state.transit ∧
    (refuseField o z c j).state.slots = j.state.slots ∧ (refuseField o z c j).state.boxes = j.state.boxes ∧
    (refuseField o z c j).state.lampMap = j.state.lampMap ∧ (refuseField o z c j).state.deposit = j.state.deposit ∧
    (refuseField o z c j).state.broadcasts = j.state.broadcasts ∧ (refuseField o z c j).state.calendar = j.state.calendar ∧
    (refuseField o z c j).state.sweep = j.state.sweep ∧ (refuseField o z c j).state.greetings = j.state.greetings ∧
    (refuseField o z c j).state.lamps = j.state.lamps ∧ (refuseField o z c j).state.control = j.state.control ∧
    (refuseField o z c j).state.reports = j.state.reports ∧ (refuseField o z c j).state.counts = j.state.counts ∧
    (refuseField o z c j).state.restartTag = j.state.restartTag ∧ (refuseField o z c j).state.loader = j.state.loader ∧
    (refuseField o z c j).state.failing = j.state.failing := by
  unfold refuseField
  (try dsimp only); (repeat' split) <;> simp

theorem judgeField_keeps {β : Type} (g : State → β) (o z h : Nat) (good : Nat → Bool) (name : FieldName)
    (put : Nat → State → State) (hp : ∀ v s, g (put v s) = g s) (j : BoxWork) :
    g (judgeField o z h good name put j).state = g j.state := by
  unfold judgeField
  dsimp only
  (repeat' split) <;> simp [hp, refuseField]

@[simp] theorem freePosition_keeps (p : Option Nat) (s : State) :
    (freePosition p s).pending = s.pending ∧ (freePosition p s).part = s.part ∧ (freePosition p s).prun = s.prun ∧
    (freePosition p s).straps = s.straps ∧ (freePosition p s).now = s.now ∧
    (freePosition p s).transit = s.transit ∧ (freePosition p s).slots = s.slots ∧
    (freePosition p s).boxes = s.boxes ∧ (freePosition p s).deposit = s.deposit ∧
    (freePosition p s).broadcasts = s.broadcasts ∧ (freePosition p s).calendar = s.calendar ∧
    (freePosition p s).sweep = s.sweep ∧ (freePosition p s).greetings = s.greetings ∧
    (freePosition p s).control = s.control ∧ (freePosition p s).reports = s.reports ∧
    (freePosition p s).counts = s.counts ∧ (freePosition p s).restartTag = s.restartTag ∧
    (freePosition p s).loader = s.loader ∧ (freePosition p s).failing = s.failing := by
  unfold freePosition
  (try dsimp only); (repeat' split) <;> simp

@[simp] theorem takePosition_keeps (m : Nat) (p : Option Nat) (s : State) :
    (takePosition m p s).pending = s.pending ∧ (takePosition m p s).part = s.part ∧
    (takePosition m p s).prun = s.prun ∧ (takePosition m p s).straps = s.straps ∧
    (takePosition m p s).now = s.now ∧ (takePosition m p s).transit = s.transit ∧
    (takePosition m p s).slots = s.slots ∧ (takePosition m p s).boxes = s.boxes ∧
    (takePosition m p s).deposit = s.deposit ∧ (takePosition m p s).broadcasts = s.broadcasts ∧
    (takePosition m p s).calendar = s.calendar ∧ (takePosition m p s).sweep = s.sweep ∧
    (takePosition m p s).greetings = s.greetings ∧ (takePosition m p s).control = s.control ∧
    (takePosition m p s).reports = s.reports ∧ (takePosition m p s).counts = s.counts ∧
    (takePosition m p s).restartTag = s.restartTag ∧ (takePosition m p s).loader = s.loader ∧
    (takePosition m p s).failing = s.failing := by
  unfold takePosition
  (try dsimp only); (repeat' split) <;> simp

@[simp] theorem changeLamp_keeps (m v : Nat) (s : State) :
    (changeLamp m v s).pending = s.pending ∧ (changeLamp m v s).part = s.part ∧ (changeLamp m v s).prun = s.prun ∧
    (changeLamp m v s).straps = s.straps ∧ (changeLamp m v s).now = s.now ∧
    (changeLamp m v s).transit = s.transit ∧ (changeLamp m v s).slots = s.slots ∧
    (changeLamp m v s).deposit = s.deposit ∧ (changeLamp m v s).broadcasts = s.broadcasts ∧
    (changeLamp m v s).calendar = s.calendar ∧ (changeLamp m v s).sweep = s.sweep ∧
    (changeLamp m v s).greetings = s.greetings ∧ (changeLamp m v s).control = s.control ∧
    (changeLamp m v s).reports = s.reports ∧ (changeLamp m v s).counts = s.counts ∧
    (changeLamp m v s).restartTag = s.restartTag ∧ (changeLamp m v s).loader = s.loader ∧
    (changeLamp m v s).failing = s.failing := by
  unfold changeLamp
  (try dsimp only); (repeat' split) <;> simp

@[simp] theorem judgeStatus_keeps (m : Nat) (j : BoxWork) :
    (judgeStatus m j).state.pending = j.state.pending ∧ (judgeStatus m j).state.part = j.state.part ∧
    (judgeStatus m j).state.prun = j.state.prun ∧ (judgeStatus m j).state.straps = j.state.straps ∧
    (judgeStatus m j).state.now = j.state.now ∧ (judgeStatus m j).state.transit = j.state.transit ∧
    (judgeStatus m j).state.slots = j.state.slots ∧ (judgeStatus m j).state.lampMap = j.state.lampMap ∧
    (judgeStatus m j).state.deposit = j.state.deposit ∧ (judgeStatus m j).state.calendar = j.state.calendar ∧
    (judgeStatus m j).state.sweep = j.state.sweep ∧ (judgeStatus m j).state.greetings = j.state.greetings ∧
    (judgeStatus m j).state.control = j.state.control ∧ (judgeStatus m j).state.counts = j.state.counts ∧
    (judgeStatus m j).state.restartTag = j.state.restartTag ∧ (judgeStatus m j).state.loader = j.state.loader ∧
    (judgeStatus m j).state.failing = j.state.failing := by
  unfold judgeStatus
  (try dsimp only); (repeat' split) <;> simp

@[simp] theorem judgeClass_keeps (m : Nat) (j : BoxWork) :
    (judgeClass m j).state.pending = j.state.pending ∧ (judgeClass m j).state.part = j.state.part ∧
    (judgeClass m j).state.prun = j.state.prun ∧ (judgeClass m j).state.straps = j.state.straps ∧
    (judgeClass m j).state.now = j.state.now ∧ (judgeClass m j).state.transit = j.state.transit ∧
    (judgeClass m j).state.slots = j.state.slots ∧ (judgeClass m j).state.lampMap = j.state.lampMap ∧
    (judgeClass m j).state.deposit = j.state.deposit ∧ (judgeClass m j).state.broadcasts = j.state.broadcasts ∧
    (judgeClass m j).state.calendar = j.state.calendar ∧ (judgeClass m j).state.sweep = j.state.sweep ∧
    (judgeClass m j).state.greetings = j.state.greetings ∧ (judgeClass m j).state.control = j.state.control ∧
    (judgeClass m j).state.reports = j.state.reports ∧ (judgeClass m j).state.counts = j.state.counts ∧
    (judgeClass m j).state.restartTag = j.state.restartTag ∧ (judgeClass m j).state.loader = j.state.loader ∧
    (judgeClass m j).state.failing = j.state.failing :=
  ⟨judgeField_keeps (·.pending) _ _ _ _ _ _ (by intros; simp) _,
   judgeField_keeps (·.part) _ _ _ _ _ _ (by intros; simp) _,
   judgeField_keeps (·.prun) _ _ _ _ _ _ (by intros; simp) _,
   judgeField_keeps (·.straps) _ _ _ _ _ _ (by intros; simp) _,
   judgeField_keeps (·.now) _ _ _ _ _ _ (by intros; simp) _,
   judgeField_keeps (·.transit) _ _ _ _ _ _ (by intros; simp) _,
   judgeField_keeps (·.slots) _ _ _ _ _ _ (by intros; simp) _,
   judgeField_keeps (·.lampMap) _ _ _ _ _ _ (by intros; simp) _,
   judgeField_keeps (·.deposit) _ _ _ _ _ _ (by intros; simp) _,
   judgeField_keeps (·.broadcasts) _ _ _ _ _ _ (by intros; simp) _,
   judgeField_keeps (·.calendar) _ _ _ _ _ _ (by intros; simp) _,
   judgeField_keeps (·.sweep) _ _ _ _ _ _ (by intros; simp) _,
   judgeField_keeps (·.greetings) _ _ _ _ _ _ (by intros; simp) _,
   judgeField_keeps (·.control) _ _ _ _ _ _ (by intros; simp) _,
   judgeField_keeps (·.reports) _ _ _ _ _ _ (by intros; simp) _,
   judgeField_keeps (·.counts) _ _ _ _ _ _ (by intros; simp) _,
   judgeField_keeps (·.restartTag) _ _ _ _ _ _ (by intros; simp) _,
   judgeField_keeps (·.loader) _ _ _ _ _ _ (by intros; simp) _,
   judgeField_keeps (·.failing) _ _ _ _ _ _ (by intros; simp) _⟩

@[simp] theorem judgeCapacity_keeps (m : Nat) (j : BoxWork) :
    (judgeCapacity m j).state.pending = j.state.pending ∧ (judgeCapacity m j).state.part = j.state.part ∧
    (judgeCapacity m j).state.prun = j.state.prun ∧ (judgeCapacity m j).state.straps = j.state.straps ∧
    (judgeCapacity m j).state.now = j.state.now ∧ (judgeCapacity m j).state.transit = j.state.transit ∧
    (judgeCapacity m j).state.slots = j.state.slots ∧ (judgeCapacity m j).state.lampMap = j.state.lampMap ∧
    (judgeCapacity m j).state.deposit = j.state.deposit ∧ (judgeCapacity m j).state.broadcasts = j.state.broadcasts ∧
    (judgeCapacity m j).state.calendar = j.state.calendar ∧ (judgeCapacity m j).state.sweep = j.state.sweep ∧
    (judgeCapacity m j).state.greetings = j.state.greetings ∧ (judgeCapacity m j).state.control = j.state.control ∧
    (judgeCapacity m j).state.reports = j.state.reports ∧ (judgeCapacity m j).state.counts = j.state.counts ∧
    (judgeCapacity m j).state.restartTag = j.state.restartTag ∧ (judgeCapacity m j).state.loader = j.state.loader ∧
    (judgeCapacity m j).state.failing = j.state.failing :=
  ⟨judgeField_keeps (·.pending) _ _ _ _ _ _ (by intros; simp) _,
   judgeField_keeps (·.part) _ _ _ _ _ _ (by intros; simp) _,
   judgeField_keeps (·.prun) _ _ _ _ _ _ (by intros; simp) _,
   judgeField_keeps (·.straps) _ _ _ _ _ _ (by intros; simp) _,
   judgeField_keeps (·.now) _ _ _ _ _ _ (by intros; simp) _,
   judgeField_keeps (·.transit) _ _ _ _ _ _ (by intros; simp) _,
   judgeField_keeps (·.slots) _ _ _ _ _ _ (by intros; simp) _,
   judgeField_keeps (·.lampMap) _ _ _ _ _ _ (by intros; simp) _,
   judgeField_keeps (·.deposit) _ _ _ _ _ _ (by intros; simp) _,
   judgeField_keeps (·.broadcasts) _ _ _ _ _ _ (by intros; simp) _,
   judgeField_keeps (·.calendar) _ _ _ _ _ _ (by intros; simp) _,
   judgeField_keeps (·.sweep) _ _ _ _ _ _ (by intros; simp) _,
   judgeField_keeps (·.greetings) _ _ _ _ _ _ (by intros; simp) _,
   judgeField_keeps (·.control) _ _ _ _ _ _ (by intros; simp) _,
   judgeField_keeps (·.reports) _ _ _ _ _ _ (by intros; simp) _,
   judgeField_keeps (·.counts) _ _ _ _ _ _ (by intros; simp) _,
   judgeField_keeps (·.restartTag) _ _ _ _ _ _ (by intros; simp) _,
   judgeField_keeps (·.loader) _ _ _ _ _ _ (by intros; simp) _,
   judgeField_keeps (·.failing) _ _ _ _ _ _ (by intros; simp) _⟩

@[simp] theorem judgeLamp_keeps (m : Nat) (j : BoxWork) :
    (judgeLamp m j).state.pending = j.state.pending ∧ (judgeLamp m j).state.part = j.state.part ∧
    (judgeLamp m j).state.prun = j.state.prun ∧ (judgeLamp m j).state.straps = j.state.straps ∧
    (judgeLamp m j).state.now = j.state.now ∧ (judgeLamp m j).state.transit = j.state.transit ∧
    (judgeLamp m j).state.slots = j.state.slots ∧ (judgeLamp m j).state.deposit = j.state.deposit ∧
    (judgeLamp m j).state.broadcasts = j.state.broadcasts ∧ (judgeLamp m j).state.calendar = j.state.calendar ∧
    (judgeLamp m j).state.sweep = j.state.sweep ∧ (judgeLamp m j).state.greetings = j.state.greetings ∧
    (judgeLamp m j).state.control = j.state.control ∧ (judgeLamp m j).state.reports = j.state.reports ∧
    (judgeLamp m j).state.counts = j.state.counts ∧ (judgeLamp m j).state.restartTag = j.state.restartTag ∧
    (judgeLamp m j).state.loader = j.state.loader ∧ (judgeLamp m j).state.failing = j.state.failing := by
  unfold judgeLamp
  (try dsimp only); (repeat' split) <;> simp

@[simp] theorem judgeSchedule_keeps (m : Nat) (j : BoxWork) :
    (judgeSchedule m j).state.pending = j.state.pending ∧ (judgeSchedule m j).state.part = j.state.part ∧
    (judgeSchedule m j).state.prun = j.state.prun ∧ (judgeSchedule m j).state.straps = j.state.straps ∧
    (judgeSchedule m j).state.now = j.state.now ∧ (judgeSchedule m j).state.transit = j.state.transit ∧
    (judgeSchedule m j).state.slots = j.state.slots ∧ (judgeSchedule m j).state.lampMap = j.state.lampMap ∧
    (judgeSchedule m j).state.deposit = j.state.deposit ∧ (judgeSchedule m j).state.broadcasts = j.state.broadcasts ∧
    (judgeSchedule m j).state.calendar = j.state.calendar ∧ (judgeSchedule m j).state.sweep = j.state.sweep ∧
    (judgeSchedule m j).state.greetings = j.state.greetings ∧ (judgeSchedule m j).state.lamps = j.state.lamps ∧
    (judgeSchedule m j).state.control = j.state.control ∧ (judgeSchedule m j).state.reports = j.state.reports ∧
    (judgeSchedule m j).state.counts = j.state.counts ∧ (judgeSchedule m j).state.restartTag = j.state.restartTag ∧
    (judgeSchedule m j).state.loader = j.state.loader ∧ (judgeSchedule m j).state.failing = j.state.failing :=
  ⟨judgeField_keeps (·.pending) _ _ _ _ _ _ (by intros; simp) _,
   judgeField_keeps (·.part) _ _ _ _ _ _ (by intros; simp) _,
   judgeField_keeps (·.prun) _ _ _ _ _ _ (by intros; simp) _,
   judgeField_keeps (·.straps) _ _ _ _ _ _ (by intros; simp) _,
   judgeField_keeps (·.now) _ _ _ _ _ _ (by intros; simp) _,
   judgeField_keeps (·.transit) _ _ _ _ _ _ (by intros; simp) _,
   judgeField_keeps (·.slots) _ _ _ _ _ _ (by intros; simp) _,
   judgeField_keeps (·.lampMap) _ _ _ _ _ _ (by intros; simp) _,
   judgeField_keeps (·.deposit) _ _ _ _ _ _ (by intros; simp) _,
   judgeField_keeps (·.broadcasts) _ _ _ _ _ _ (by intros; simp) _,
   judgeField_keeps (·.calendar) _ _ _ _ _ _ (by intros; simp) _,
   judgeField_keeps (·.sweep) _ _ _ _ _ _ (by intros; simp) _,
   judgeField_keeps (·.greetings) _ _ _ _ _ _ (by intros; simp) _,
   judgeField_keeps (·.lamps) _ _ _ _ _ _ (by intros; simp) _,
   judgeField_keeps (·.control) _ _ _ _ _ _ (by intros; simp) _,
   judgeField_keeps (·.reports) _ _ _ _ _ _ (by intros; simp) _,
   judgeField_keeps (·.counts) _ _ _ _ _ _ (by intros; simp) _,
   judgeField_keeps (·.restartTag) _ _ _ _ _ _ (by intros; simp) _,
   judgeField_keeps (·.loader) _ _ _ _ _ _ (by intros; simp) _,
   judgeField_keeps (·.failing) _ _ _ _ _ _ (by intros; simp) _⟩

@[simp] theorem judgeLocator_keeps (m : Nat) (o : Nat) (name : FieldName) (get : MailboxRec → Locator)
    (put : Locator → MailboxRec → MailboxRec) (j : BoxWork) :
    (judgeLocator m o name get put j).state.pending = j.state.pending ∧
    (judgeLocator m o name get put j).state.part = j.state.part ∧ (judgeLocator m o name get put j).state.prun = j.state.prun ∧
    (judgeLocator m o name get put j).state.straps = j.state.straps ∧
    (judgeLocator m o name get put j).state.now = j.state.now ∧
    (judgeLocator m o name get put j).state.transit = j.state.transit ∧
    (judgeLocator m o name get put j).state.slots = j.state.slots ∧
    (judgeLocator m o name get put j).state.lampMap = j.state.lampMap ∧
    (judgeLocator m o name get put j).state.deposit = j.state.deposit ∧
    (judgeLocator m o name get put j).state.broadcasts = j.state.broadcasts ∧
    (judgeLocator m o name get put j).state.calendar = j.state.calendar ∧
    (judgeLocator m o name get put j).state.sweep = j.state.sweep ∧
    (judgeLocator m o name get put j).state.greetings = j.state.greetings ∧
    (judgeLocator m o name get put j).state.lamps = j.state.lamps ∧
    (judgeLocator m o name get put j).state.control = j.state.control ∧
    (judgeLocator m o name get put j).state.reports = j.state.reports ∧
    (judgeLocator m o name get put j).state.counts = j.state.counts ∧
    (judgeLocator m o name get put j).state.restartTag = j.state.restartTag ∧
    (judgeLocator m o name get put j).state.loader = j.state.loader ∧
    (judgeLocator m o name get put j).state.failing = j.state.failing :=
  ⟨judgeField_keeps (·.pending) _ _ _ _ _ _ (by intros; simp) _,
   judgeField_keeps (·.part) _ _ _ _ _ _ (by intros; simp) _,
   judgeField_keeps (·.prun) _ _ _ _ _ _ (by intros; simp) _,
   judgeField_keeps (·.straps) _ _ _ _ _ _ (by intros; simp) _,
   judgeField_keeps (·.now) _ _ _ _ _ _ (by intros; simp) _,
   judgeField_keeps (·.transit) _ _ _ _ _ _ (by intros; simp) _,
   judgeField_keeps (·.slots) _ _ _ _ _ _ (by intros; simp) _,
   judgeField_keeps (·.lampMap) _ _ _ _ _ _ (by intros; simp) _,
   judgeField_keeps (·.deposit) _ _ _ _ _ _ (by intros; simp) _,
   judgeField_keeps (·.broadcasts) _ _ _ _ _ _ (by intros; simp) _,
   judgeField_keeps (·.calendar) _ _ _ _ _ _ (by intros; simp) _,
   judgeField_keeps (·.sweep) _ _ _ _ _ _ (by intros; simp) _,
   judgeField_keeps (·.greetings) _ _ _ _ _ _ (by intros; simp) _,
   judgeField_keeps (·.lamps) _ _ _ _ _ _ (by intros; simp) _,
   judgeField_keeps (·.control) _ _ _ _ _ _ (by intros; simp) _,
   judgeField_keeps (·.reports) _ _ _ _ _ _ (by intros; simp) _,
   judgeField_keeps (·.counts) _ _ _ _ _ _ (by intros; simp) _,
   judgeField_keeps (·.restartTag) _ _ _ _ _ _ (by intros; simp) _,
   judgeField_keeps (·.loader) _ _ _ _ _ _ (by intros; simp) _,
   judgeField_keeps (·.failing) _ _ _ _ _ _ (by intros; simp) _⟩

@[simp] theorem judgePrimary_keeps (m : Nat) (j : BoxWork) :
    (judgePrimary m j).state.pending = j.state.pending ∧ (judgePrimary m j).state.part = j.state.part ∧
    (judgePrimary m j).state.prun = j.state.prun ∧ (judgePrimary m j).state.straps = j.state.straps ∧
    (judgePrimary m j).state.now = j.state.now ∧ (judgePrimary m j).state.transit = j.state.transit ∧
    (judgePrimary m j).state.slots = j.state.slots ∧ (judgePrimary m j).state.lampMap = j.state.lampMap ∧
    (judgePrimary m j).state.deposit = j.state.deposit ∧ (judgePrimary m j).state.broadcasts = j.state.broadcasts ∧
    (judgePrimary m j).state.calendar = j.state.calendar ∧ (judgePrimary m j).state.sweep = j.state.sweep ∧
    (judgePrimary m j).state.greetings = j.state.greetings ∧ (judgePrimary m j).state.lamps = j.state.lamps ∧
    (judgePrimary m j).state.control = j.state.control ∧ (judgePrimary m j).state.reports = j.state.reports ∧
    (judgePrimary m j).state.counts = j.state.counts ∧ (judgePrimary m j).state.restartTag = j.state.restartTag ∧
    (judgePrimary m j).state.loader = j.state.loader ∧ (judgePrimary m j).state.failing = j.state.failing := by
  unfold judgePrimary
  simp

@[simp] theorem judgeAfterHours_keeps (m : Nat) (j : BoxWork) :
    (judgeAfterHours m j).state.pending = j.state.pending ∧ (judgeAfterHours m j).state.part = j.state.part ∧
    (judgeAfterHours m j).state.prun = j.state.prun ∧ (judgeAfterHours m j).state.straps = j.state.straps ∧
    (judgeAfterHours m j).state.now = j.state.now ∧ (judgeAfterHours m j).state.transit = j.state.transit ∧
    (judgeAfterHours m j).state.slots = j.state.slots ∧ (judgeAfterHours m j).state.lampMap = j.state.lampMap ∧
    (judgeAfterHours m j).state.deposit = j.state.deposit ∧ (judgeAfterHours m j).state.broadcasts = j.state.broadcasts ∧
    (judgeAfterHours m j).state.calendar = j.state.calendar ∧ (judgeAfterHours m j).state.sweep = j.state.sweep ∧
    (judgeAfterHours m j).state.greetings = j.state.greetings ∧ (judgeAfterHours m j).state.lamps = j.state.lamps ∧
    (judgeAfterHours m j).state.control = j.state.control ∧ (judgeAfterHours m j).state.reports = j.state.reports ∧
    (judgeAfterHours m j).state.counts = j.state.counts ∧ (judgeAfterHours m j).state.restartTag = j.state.restartTag ∧
    (judgeAfterHours m j).state.loader = j.state.loader ∧ (judgeAfterHours m j).state.failing = j.state.failing := by
  unfold judgeAfterHours
  simp

@[simp] theorem judgeOnBreak_keeps (m : Nat) (j : BoxWork) :
    (judgeOnBreak m j).state.pending = j.state.pending ∧ (judgeOnBreak m j).state.part = j.state.part ∧
    (judgeOnBreak m j).state.prun = j.state.prun ∧ (judgeOnBreak m j).state.straps = j.state.straps ∧
    (judgeOnBreak m j).state.now = j.state.now ∧ (judgeOnBreak m j).state.transit = j.state.transit ∧
    (judgeOnBreak m j).state.slots = j.state.slots ∧ (judgeOnBreak m j).state.lampMap = j.state.lampMap ∧
    (judgeOnBreak m j).state.deposit = j.state.deposit ∧ (judgeOnBreak m j).state.broadcasts = j.state.broadcasts ∧
    (judgeOnBreak m j).state.calendar = j.state.calendar ∧ (judgeOnBreak m j).state.sweep = j.state.sweep ∧
    (judgeOnBreak m j).state.greetings = j.state.greetings ∧ (judgeOnBreak m j).state.lamps = j.state.lamps ∧
    (judgeOnBreak m j).state.control = j.state.control ∧ (judgeOnBreak m j).state.reports = j.state.reports ∧
    (judgeOnBreak m j).state.counts = j.state.counts ∧ (judgeOnBreak m j).state.restartTag = j.state.restartTag ∧
    (judgeOnBreak m j).state.loader = j.state.loader ∧ (judgeOnBreak m j).state.failing = j.state.failing := by
  unfold judgeOnBreak
  simp

@[simp] theorem judgeAbsence_keeps (m : Nat) (j : BoxWork) :
    (judgeAbsence m j).state.pending = j.state.pending ∧ (judgeAbsence m j).state.part = j.state.part ∧
    (judgeAbsence m j).state.prun = j.state.prun ∧ (judgeAbsence m j).state.straps = j.state.straps ∧
    (judgeAbsence m j).state.now = j.state.now ∧ (judgeAbsence m j).state.transit = j.state.transit ∧
    (judgeAbsence m j).state.slots = j.state.slots ∧ (judgeAbsence m j).state.lampMap = j.state.lampMap ∧
    (judgeAbsence m j).state.deposit = j.state.deposit ∧ (judgeAbsence m j).state.broadcasts = j.state.broadcasts ∧
    (judgeAbsence m j).state.calendar = j.state.calendar ∧ (judgeAbsence m j).state.sweep = j.state.sweep ∧
    (judgeAbsence m j).state.greetings = j.state.greetings ∧ (judgeAbsence m j).state.lamps = j.state.lamps ∧
    (judgeAbsence m j).state.control = j.state.control ∧ (judgeAbsence m j).state.reports = j.state.reports ∧
    (judgeAbsence m j).state.counts = j.state.counts ∧ (judgeAbsence m j).state.restartTag = j.state.restartTag ∧
    (judgeAbsence m j).state.loader = j.state.loader ∧ (judgeAbsence m j).state.failing = j.state.failing := by
  unfold judgeAbsence
  simp

@[simp] theorem judgeAbsenceUntil_keeps (m : Nat) (j : BoxWork) :
    (judgeAbsenceUntil m j).state.pending = j.state.pending ∧ (judgeAbsenceUntil m j).state.part = j.state.part ∧
    (judgeAbsenceUntil m j).state.prun = j.state.prun ∧ (judgeAbsenceUntil m j).state.straps = j.state.straps ∧
    (judgeAbsenceUntil m j).state.now = j.state.now ∧ (judgeAbsenceUntil m j).state.transit = j.state.transit ∧
    (judgeAbsenceUntil m j).state.slots = j.state.slots ∧ (judgeAbsenceUntil m j).state.lampMap = j.state.lampMap ∧
    (judgeAbsenceUntil m j).state.deposit = j.state.deposit ∧ (judgeAbsenceUntil m j).state.broadcasts = j.state.broadcasts ∧
    (judgeAbsenceUntil m j).state.calendar = j.state.calendar ∧ (judgeAbsenceUntil m j).state.sweep = j.state.sweep ∧
    (judgeAbsenceUntil m j).state.greetings = j.state.greetings ∧ (judgeAbsenceUntil m j).state.lamps = j.state.lamps ∧
    (judgeAbsenceUntil m j).state.control = j.state.control ∧ (judgeAbsenceUntil m j).state.reports = j.state.reports ∧
    (judgeAbsenceUntil m j).state.counts = j.state.counts ∧ (judgeAbsenceUntil m j).state.restartTag = j.state.restartTag ∧
    (judgeAbsenceUntil m j).state.loader = j.state.loader ∧ (judgeAbsenceUntil m j).state.failing = j.state.failing :=
  ⟨judgeField_keeps (·.pending) _ _ _ _ _ _ (by intros; simp) _,
   judgeField_keeps (·.part) _ _ _ _ _ _ (by intros; simp) _,
   judgeField_keeps (·.prun) _ _ _ _ _ _ (by intros; simp) _,
   judgeField_keeps (·.straps) _ _ _ _ _ _ (by intros; simp) _,
   judgeField_keeps (·.now) _ _ _ _ _ _ (by intros; simp) _,
   judgeField_keeps (·.transit) _ _ _ _ _ _ (by intros; simp) _,
   judgeField_keeps (·.slots) _ _ _ _ _ _ (by intros; simp) _,
   judgeField_keeps (·.lampMap) _ _ _ _ _ _ (by intros; simp) _,
   judgeField_keeps (·.deposit) _ _ _ _ _ _ (by intros; simp) _,
   judgeField_keeps (·.broadcasts) _ _ _ _ _ _ (by intros; simp) _,
   judgeField_keeps (·.calendar) _ _ _ _ _ _ (by intros; simp) _,
   judgeField_keeps (·.sweep) _ _ _ _ _ _ (by intros; simp) _,
   judgeField_keeps (·.greetings) _ _ _ _ _ _ (by intros; simp) _,
   judgeField_keeps (·.lamps) _ _ _ _ _ _ (by intros; simp) _,
   judgeField_keeps (·.control) _ _ _ _ _ _ (by intros; simp) _,
   judgeField_keeps (·.reports) _ _ _ _ _ _ (by intros; simp) _,
   judgeField_keeps (·.counts) _ _ _ _ _ _ (by intros; simp) _,
   judgeField_keeps (·.restartTag) _ _ _ _ _ _ (by intros; simp) _,
   judgeField_keeps (·.loader) _ _ _ _ _ _ (by intros; simp) _,
   judgeField_keeps (·.failing) _ _ _ _ _ _ (by intros; simp) _⟩

@[simp] theorem judgeExtension_keeps (m : Nat) (j : BoxWork) :
    (judgeExtension m j).state.pending = j.state.pending ∧ (judgeExtension m j).state.part = j.state.part ∧
    (judgeExtension m j).state.prun = j.state.prun ∧ (judgeExtension m j).state.straps = j.state.straps ∧
    (judgeExtension m j).state.now = j.state.now ∧ (judgeExtension m j).state.transit = j.state.transit ∧
    (judgeExtension m j).state.slots = j.state.slots ∧ (judgeExtension m j).state.lampMap = j.state.lampMap ∧
    (judgeExtension m j).state.deposit = j.state.deposit ∧ (judgeExtension m j).state.broadcasts = j.state.broadcasts ∧
    (judgeExtension m j).state.calendar = j.state.calendar ∧ (judgeExtension m j).state.sweep = j.state.sweep ∧
    (judgeExtension m j).state.greetings = j.state.greetings ∧ (judgeExtension m j).state.lamps = j.state.lamps ∧
    (judgeExtension m j).state.control = j.state.control ∧ (judgeExtension m j).state.reports = j.state.reports ∧
    (judgeExtension m j).state.counts = j.state.counts ∧ (judgeExtension m j).state.restartTag = j.state.restartTag ∧
    (judgeExtension m j).state.loader = j.state.loader ∧ (judgeExtension m j).state.failing = j.state.failing :=
  ⟨judgeField_keeps (·.pending) _ _ _ _ _ _ (by intros; simp) _,
   judgeField_keeps (·.part) _ _ _ _ _ _ (by intros; simp) _,
   judgeField_keeps (·.prun) _ _ _ _ _ _ (by intros; simp) _,
   judgeField_keeps (·.straps) _ _ _ _ _ _ (by intros; simp) _,
   judgeField_keeps (·.now) _ _ _ _ _ _ (by intros; simp) _,
   judgeField_keeps (·.transit) _ _ _ _ _ _ (by intros; simp) _,
   judgeField_keeps (·.slots) _ _ _ _ _ _ (by intros; simp) _,
   judgeField_keeps (·.lampMap) _ _ _ _ _ _ (by intros; simp) _,
   judgeField_keeps (·.deposit) _ _ _ _ _ _ (by intros; simp) _,
   judgeField_keeps (·.broadcasts) _ _ _ _ _ _ (by intros; simp) _,
   judgeField_keeps (·.calendar) _ _ _ _ _ _ (by intros; simp) _,
   judgeField_keeps (·.sweep) _ _ _ _ _ _ (by intros; simp) _,
   judgeField_keeps (·.greetings) _ _ _ _ _ _ (by intros; simp) _,
   judgeField_keeps (·.lamps) _ _ _ _ _ _ (by intros; simp) _,
   judgeField_keeps (·.control) _ _ _ _ _ _ (by intros; simp) _,
   judgeField_keeps (·.reports) _ _ _ _ _ _ (by intros; simp) _,
   judgeField_keeps (·.counts) _ _ _ _ _ _ (by intros; simp) _,
   judgeField_keeps (·.restartTag) _ _ _ _ _ _ (by intros; simp) _,
   judgeField_keeps (·.loader) _ _ _ _ _ _ (by intros; simp) _,
   judgeField_keeps (·.failing) _ _ _ _ _ _ (by intros; simp) _⟩

@[simp] theorem judgeFields_keeps (m : Nat) (ls : List Lane) (s : State) :
    (judgeFields m ls s).state.pending = s.pending ∧ (judgeFields m ls s).state.part = s.part ∧
    (judgeFields m ls s).state.prun = s.prun ∧ (judgeFields m ls s).state.straps = s.straps ∧
    (judgeFields m ls s).state.now = s.now ∧ (judgeFields m ls s).state.transit = s.transit ∧
    (judgeFields m ls s).state.slots = s.slots ∧ (judgeFields m ls s).state.deposit = s.deposit ∧
    (judgeFields m ls s).state.calendar = s.calendar ∧ (judgeFields m ls s).state.sweep = s.sweep ∧
    (judgeFields m ls s).state.greetings = s.greetings ∧ (judgeFields m ls s).state.control = s.control ∧
    (judgeFields m ls s).state.counts = s.counts ∧ (judgeFields m ls s).state.restartTag = s.restartTag ∧
    (judgeFields m ls s).state.loader = s.loader ∧ (judgeFields m ls s).state.failing = s.failing := by
  simp [judgeFields]

@[simp] theorem judgeAcknowledge_keeps (m v : Nat) (j : BoxWork) :
    (judgeAcknowledge m v j).state.pending = j.state.pending ∧ (judgeAcknowledge m v j).state.part = j.state.part ∧
    (judgeAcknowledge m v j).state.prun = j.state.prun ∧ (judgeAcknowledge m v j).state.straps = j.state.straps ∧
    (judgeAcknowledge m v j).state.now = j.state.now ∧ (judgeAcknowledge m v j).state.transit = j.state.transit ∧
    (judgeAcknowledge m v j).state.slots = j.state.slots ∧ (judgeAcknowledge m v j).state.lampMap = j.state.lampMap ∧
    (judgeAcknowledge m v j).state.deposit = j.state.deposit ∧ (judgeAcknowledge m v j).state.calendar = j.state.calendar ∧
    (judgeAcknowledge m v j).state.sweep = j.state.sweep ∧ (judgeAcknowledge m v j).state.greetings = j.state.greetings ∧
    (judgeAcknowledge m v j).state.control = j.state.control ∧ (judgeAcknowledge m v j).state.counts = j.state.counts ∧
    (judgeAcknowledge m v j).state.restartTag = j.state.restartTag ∧ (judgeAcknowledge m v j).state.loader = j.state.loader ∧
    (judgeAcknowledge m v j).state.failing = j.state.failing := by
  unfold judgeAcknowledge
  (try dsimp only); (repeat' split) <;> simp

@[simp] theorem judgeBox_keeps (m : Nat) (ls : List Lane) (s : State) :
    (judgeBox m ls s).state.pending = s.pending ∧ (judgeBox m ls s).state.part = s.part ∧
    (judgeBox m ls s).state.prun = s.prun ∧ (judgeBox m ls s).state.straps = s.straps ∧
    (judgeBox m ls s).state.now = s.now ∧ (judgeBox m ls s).state.transit = s.transit ∧
    (judgeBox m ls s).state.slots = s.slots ∧ (judgeBox m ls s).state.deposit = s.deposit ∧
    (judgeBox m ls s).state.calendar = s.calendar ∧ (judgeBox m ls s).state.sweep = s.sweep ∧
    (judgeBox m ls s).state.greetings = s.greetings ∧ (judgeBox m ls s).state.control = s.control ∧
    (judgeBox m ls s).state.counts = s.counts ∧ (judgeBox m ls s).state.restartTag = s.restartTag ∧
    (judgeBox m ls s).state.loader = s.loader ∧ (judgeBox m ls s).state.failing = s.failing := by
  simp [judgeBox]

@[simp] theorem judgeBoxes_keeps (first : Nat) (is : List Nat) (x : LineWork) :
    (judgeBoxes first is x).state.pending = x.state.pending ∧ (judgeBoxes first is x).state.part = x.state.part ∧
    (judgeBoxes first is x).state.prun = x.state.prun ∧ (judgeBoxes first is x).state.straps = x.state.straps ∧
    (judgeBoxes first is x).state.now = x.state.now ∧ (judgeBoxes first is x).state.transit = x.state.transit ∧
    (judgeBoxes first is x).state.slots = x.state.slots ∧ (judgeBoxes first is x).state.deposit = x.state.deposit ∧
    (judgeBoxes first is x).state.calendar = x.state.calendar ∧ (judgeBoxes first is x).state.sweep = x.state.sweep ∧
    (judgeBoxes first is x).state.greetings = x.state.greetings ∧ (judgeBoxes first is x).state.control = x.state.control ∧
    (judgeBoxes first is x).state.counts = x.state.counts ∧ (judgeBoxes first is x).state.restartTag = x.state.restartTag ∧
    (judgeBoxes first is x).state.loader = x.state.loader ∧ (judgeBoxes first is x).state.failing = x.state.failing := by
  induction is generalizing x with
  | nil => simp [judgeBoxes]
  | cons i is ih => simp [judgeBoxes, ih]

@[simp] theorem mailboxDirWrite_keeps (base : Nat) (w : HostWrite) (s : State) :
    (mailboxDirWrite base w s).pending = s.pending ∧ (mailboxDirWrite base w s).part = s.part ∧
    (mailboxDirWrite base w s).prun = s.prun ∧ (mailboxDirWrite base w s).straps = s.straps ∧
    (mailboxDirWrite base w s).now = s.now ∧ (mailboxDirWrite base w s).transit.ctlSel = s.transit.ctlSel ∧
    (mailboxDirWrite base w s).transit.regions = s.transit.regions ∧
    (mailboxDirWrite base w s).transit.arrivals = s.transit.arrivals ∧
    (mailboxDirWrite base w s).transit.turn = s.transit.turn ∧
    (mailboxDirWrite base w s).transit.order = s.transit.order ∧
    (mailboxDirWrite base w s).transit.returned = s.transit.returned ∧ (mailboxDirWrite base w s).slots = s.slots ∧
    (mailboxDirWrite base w s).deposit = s.deposit ∧ (mailboxDirWrite base w s).calendar = s.calendar ∧
    (mailboxDirWrite base w s).sweep = s.sweep ∧ (mailboxDirWrite base w s).greetings = s.greetings ∧
    (mailboxDirWrite base w s).control = s.control ∧ (mailboxDirWrite base w s).counts = s.counts ∧
    (mailboxDirWrite base w s).restartTag = s.restartTag ∧ (mailboxDirWrite base w s).loader = s.loader ∧
    (mailboxDirWrite base w s).failing = s.failing := by
  unfold mailboxDirWrite
  (try dsimp only); (repeat' split) <;> simp

@[simp] theorem mailboxDirRead_keeps (base : Nat) (r : HostRead) (s : State) :
    (mailboxDirRead base r s).pending = s.pending ∧ (mailboxDirRead base r s).part = s.part ∧
    (mailboxDirRead base r s).prun = s.prun ∧ (mailboxDirRead base r s).straps = s.straps ∧
    (mailboxDirRead base r s).now = s.now ∧ (mailboxDirRead base r s).transit.ctlSel = s.transit.ctlSel ∧
    (mailboxDirRead base r s).transit.regions = s.transit.regions ∧
    (mailboxDirRead base r s).transit.arrivals = s.transit.arrivals ∧
    (mailboxDirRead base r s).transit.turn = s.transit.turn ∧
    (mailboxDirRead base r s).transit.order = s.transit.order ∧
    (mailboxDirRead base r s).transit.returned = s.transit.returned ∧ (mailboxDirRead base r s).slots = s.slots ∧
    (mailboxDirRead base r s).boxes = s.boxes ∧ (mailboxDirRead base r s).lampMap = s.lampMap ∧
    (mailboxDirRead base r s).deposit = s.deposit ∧ (mailboxDirRead base r s).broadcasts = s.broadcasts ∧
    (mailboxDirRead base r s).calendar = s.calendar ∧ (mailboxDirRead base r s).sweep = s.sweep ∧
    (mailboxDirRead base r s).greetings = s.greetings ∧ (mailboxDirRead base r s).lamps = s.lamps ∧
    (mailboxDirRead base r s).control = s.control ∧ (mailboxDirRead base r s).reports = s.reports ∧
    (mailboxDirRead base r s).counts = s.counts ∧ (mailboxDirRead base r s).restartTag = s.restartTag ∧
    (mailboxDirRead base r s).loader = s.loader ∧ (mailboxDirRead base r s).failing = s.failing := by
  unfold mailboxDirRead
  (try dsimp only); (repeat' split) <;> simp

/-! ### Calendar and sweep -/

@[simp] theorem calendarAdvance_keeps (s : State) :
    (calendarAdvance s).pending = s.pending ∧ (calendarAdvance s).part = s.part ∧
    (calendarAdvance s).prun = s.prun ∧ (calendarAdvance s).straps = s.straps ∧ (calendarAdvance s).now = s.now ∧
    (calendarAdvance s).transit = s.transit ∧ (calendarAdvance s).slots = s.slots ∧
    (calendarAdvance s).boxes = s.boxes ∧ (calendarAdvance s).lampMap = s.lampMap ∧
    (calendarAdvance s).deposit = s.deposit ∧ (calendarAdvance s).broadcasts = s.broadcasts ∧
    (calendarAdvance s).greetings = s.greetings ∧ (calendarAdvance s).lamps = s.lamps ∧
    (calendarAdvance s).control = s.control ∧ (calendarAdvance s).reports = s.reports ∧
    (calendarAdvance s).counts = s.counts ∧ (calendarAdvance s).restartTag = s.restartTag ∧
    (calendarAdvance s).loader = s.loader ∧ (calendarAdvance s).failing = s.failing := by
  unfold calendarAdvance
  (try dsimp only); (repeat' split) <;> simp

@[simp] theorem commandClock_keeps (c : Command) (s : State) :
    (commandClock c s).pending = s.pending ∧ (commandClock c s).part = s.part ∧ (commandClock c s).prun = s.prun ∧
    (commandClock c s).straps = s.straps ∧ (commandClock c s).now = s.now ∧
    (commandClock c s).transit = s.transit ∧ (commandClock c s).slots = s.slots ∧
    (commandClock c s).boxes = s.boxes ∧ (commandClock c s).lampMap = s.lampMap ∧
    (commandClock c s).deposit = s.deposit ∧ (commandClock c s).broadcasts = s.broadcasts ∧
    (commandClock c s).sweep = s.sweep ∧ (commandClock c s).greetings = s.greetings ∧
    (commandClock c s).lamps = s.lamps ∧ (commandClock c s).control = s.control ∧
    (commandClock c s).counts = s.counts ∧ (commandClock c s).restartTag = s.restartTag ∧
    (commandClock c s).loader = s.loader ∧ (commandClock c s).failing = s.failing := by
  unfold commandClock
  (try dsimp only); (repeat' split) <;> simp

@[simp] theorem commandSweep_keeps (c : Command) (s : State) :
    (commandSweep c s).pending = s.pending ∧ (commandSweep c s).part = s.part ∧ (commandSweep c s).prun = s.prun ∧
    (commandSweep c s).straps = s.straps ∧ (commandSweep c s).now = s.now ∧
    (commandSweep c s).transit = s.transit ∧ (commandSweep c s).slots = s.slots ∧
    (commandSweep c s).boxes = s.boxes ∧ (commandSweep c s).lampMap = s.lampMap ∧
    (commandSweep c s).deposit = s.deposit ∧ (commandSweep c s).broadcasts = s.broadcasts ∧
    (commandSweep c s).calendar = s.calendar ∧ (commandSweep c s).greetings = s.greetings ∧
    (commandSweep c s).lamps = s.lamps ∧ (commandSweep c s).control = s.control ∧
    (commandSweep c s).counts = s.counts ∧ (commandSweep c s).restartTag = s.restartTag ∧
    (commandSweep c s).loader = s.loader ∧ (commandSweep c s).failing = s.failing := by
  unfold commandSweep
  (try dsimp only); (repeat' split) <;> simp

@[simp] theorem reportSweep_keeps (s : State) :
    (reportSweep s).pending = s.pending ∧ (reportSweep s).part = s.part ∧ (reportSweep s).prun = s.prun ∧
    (reportSweep s).straps = s.straps ∧ (reportSweep s).now = s.now ∧ (reportSweep s).transit = s.transit ∧
    (reportSweep s).slots = s.slots ∧ (reportSweep s).boxes = s.boxes ∧ (reportSweep s).lampMap = s.lampMap ∧
    (reportSweep s).deposit = s.deposit ∧ (reportSweep s).broadcasts = s.broadcasts ∧
    (reportSweep s).calendar = s.calendar ∧ (reportSweep s).greetings = s.greetings ∧
    (reportSweep s).lamps = s.lamps ∧ (reportSweep s).control = s.control ∧ (reportSweep s).counts = s.counts ∧
    (reportSweep s).restartTag = s.restartTag ∧ (reportSweep s).loader = s.loader ∧
    (reportSweep s).failing = s.failing := by
  unfold reportSweep
  (try dsimp only); (repeat' split) <;> simp

@[simp] theorem endSweep_keeps (s : State) :
    (endSweep s).pending = s.pending ∧ (endSweep s).part = s.part ∧ (endSweep s).prun = s.prun ∧
    (endSweep s).straps = s.straps ∧ (endSweep s).now = s.now ∧ (endSweep s).transit = s.transit ∧
    (endSweep s).slots = s.slots ∧ (endSweep s).lampMap = s.lampMap ∧ (endSweep s).deposit = s.deposit ∧
    (endSweep s).calendar = s.calendar ∧ (endSweep s).greetings = s.greetings ∧ (endSweep s).control = s.control ∧
    (endSweep s).counts = s.counts ∧ (endSweep s).restartTag = s.restartTag ∧ (endSweep s).loader = s.loader ∧
    (endSweep s).failing = s.failing := by
  unfold endSweep
  (try dsimp only); (repeat' split) <;> simp

@[simp] theorem visitSlot_keeps (s : State) :
    (visitSlot s).pending = s.pending ∧ (visitSlot s).part = s.part ∧ (visitSlot s).prun = s.prun ∧
    (visitSlot s).straps = s.straps ∧ (visitSlot s).now = s.now ∧ (visitSlot s).transit.ctlSel = s.transit.ctlSel ∧
    (visitSlot s).transit.regions = s.transit.regions ∧ (visitSlot s).transit.arrivals = s.transit.arrivals ∧
    (visitSlot s).transit.turn = s.transit.turn ∧ (visitSlot s).transit.order = s.transit.order ∧
    (visitSlot s).transit.returned = s.transit.returned ∧ (visitSlot s).lampMap = s.lampMap ∧
    (visitSlot s).deposit = s.deposit ∧ (visitSlot s).broadcasts = s.broadcasts ∧
    (visitSlot s).calendar = s.calendar ∧ (visitSlot s).greetings = s.greetings ∧
    (visitSlot s).control = s.control ∧ (visitSlot s).reports = s.reports ∧ (visitSlot s).counts = s.counts ∧
    (visitSlot s).restartTag = s.restartTag ∧ (visitSlot s).loader = s.loader ∧ (visitSlot s).failing = s.failing := by
  unfold visitSlot
  (try dsimp only); (repeat' split) <;> simp

@[simp] theorem sweepVisit_keeps (s : State) :
    (sweepVisit s).pending = s.pending ∧ (sweepVisit s).part = s.part ∧ (sweepVisit s).prun = s.prun ∧
    (sweepVisit s).straps = s.straps ∧ (sweepVisit s).now = s.now ∧
    (sweepVisit s).transit.ctlSel = s.transit.ctlSel ∧ (sweepVisit s).transit.regions = s.transit.regions ∧
    (sweepVisit s).transit.arrivals = s.transit.arrivals ∧ (sweepVisit s).transit.turn = s.transit.turn ∧
    (sweepVisit s).transit.order = s.transit.order ∧ (sweepVisit s).transit.returned = s.transit.returned ∧
    (sweepVisit s).lampMap = s.lampMap ∧ (sweepVisit s).deposit = s.deposit ∧
    (sweepVisit s).calendar = s.calendar ∧ (sweepVisit s).greetings = s.greetings ∧
    (sweepVisit s).control = s.control ∧ (sweepVisit s).counts = s.counts ∧
    (sweepVisit s).restartTag = s.restartTag ∧ (sweepVisit s).loader = s.loader ∧ (sweepVisit s).failing = s.failing := by
  unfold sweepVisit
  (try dsimp only); (repeat' split) <;> simp

/-! ### Lamp links -/

@[simp] theorem sendCadence_keeps (k : Link) (s : State) :
    (sendCadence k s).pending = s.pending ∧ (sendCadence k s).part = s.part ∧ (sendCadence k s).prun = s.prun ∧
    (sendCadence k s).straps = s.straps ∧ (sendCadence k s).now = s.now ∧ (sendCadence k s).transit = s.transit ∧
    (sendCadence k s).slots = s.slots ∧ (sendCadence k s).boxes = s.boxes ∧ (sendCadence k s).lampMap = s.lampMap ∧
    (sendCadence k s).deposit = s.deposit ∧ (sendCadence k s).broadcasts = s.broadcasts ∧
    (sendCadence k s).calendar = s.calendar ∧ (sendCadence k s).sweep = s.sweep ∧
    (sendCadence k s).greetings = s.greetings ∧ (sendCadence k s).control = s.control ∧
    (sendCadence k s).reports = s.reports ∧ (sendCadence k s).counts = s.counts ∧
    (sendCadence k s).restartTag = s.restartTag ∧ (sendCadence k s).loader = s.loader ∧
    (sendCadence k s).failing = s.failing := by
  unfold sendCadence
  (try dsimp only); (repeat' split) <;> simp

@[simp] theorem sendLampSet_keeps (k : Link) (a : Nat) (s : State) :
    (sendLampSet k a s).pending = s.pending ∧ (sendLampSet k a s).part = s.part ∧
    (sendLampSet k a s).prun = s.prun ∧ (sendLampSet k a s).straps = s.straps ∧ (sendLampSet k a s).now = s.now ∧
    (sendLampSet k a s).transit = s.transit ∧ (sendLampSet k a s).slots = s.slots ∧
    (sendLampSet k a s).boxes = s.boxes ∧ (sendLampSet k a s).lampMap = s.lampMap ∧
    (sendLampSet k a s).deposit = s.deposit ∧ (sendLampSet k a s).broadcasts = s.broadcasts ∧
    (sendLampSet k a s).calendar = s.calendar ∧ (sendLampSet k a s).sweep = s.sweep ∧
    (sendLampSet k a s).greetings = s.greetings ∧ (sendLampSet k a s).control = s.control ∧
    (sendLampSet k a s).reports = s.reports ∧ (sendLampSet k a s).counts = s.counts ∧
    (sendLampSet k a s).restartTag = s.restartTag ∧ (sendLampSet k a s).loader = s.loader ∧
    (sendLampSet k a s).failing = s.failing := by
  unfold sendLampSet
  (try dsimp only); (repeat' split) <;> simp

@[simp] theorem sendProbe_keeps (k : Link) (a : Nat) (s : State) :
    (sendProbe k a s).pending = s.pending ∧ (sendProbe k a s).part = s.part ∧ (sendProbe k a s).prun = s.prun ∧
    (sendProbe k a s).straps = s.straps ∧ (sendProbe k a s).now = s.now ∧ (sendProbe k a s).transit = s.transit ∧
    (sendProbe k a s).slots = s.slots ∧ (sendProbe k a s).boxes = s.boxes ∧ (sendProbe k a s).lampMap = s.lampMap ∧
    (sendProbe k a s).deposit = s.deposit ∧ (sendProbe k a s).broadcasts = s.broadcasts ∧
    (sendProbe k a s).calendar = s.calendar ∧ (sendProbe k a s).sweep = s.sweep ∧
    (sendProbe k a s).greetings = s.greetings ∧ (sendProbe k a s).control = s.control ∧
    (sendProbe k a s).reports = s.reports ∧ (sendProbe k a s).counts = s.counts ∧
    (sendProbe k a s).restartTag = s.restartTag ∧ (sendProbe k a s).loader = s.loader ∧
    (sendProbe k a s).failing = s.failing := by
  unfold sendProbe
  (try dsimp only); (repeat' split) <;> simp

@[simp] theorem chooseFrame_keeps (k : Link) (s : State) :
    (chooseFrame k s).pending = s.pending ∧ (chooseFrame k s).part = s.part ∧ (chooseFrame k s).prun = s.prun ∧
    (chooseFrame k s).straps = s.straps ∧ (chooseFrame k s).now = s.now ∧ (chooseFrame k s).transit = s.transit ∧
    (chooseFrame k s).slots = s.slots ∧ (chooseFrame k s).boxes = s.boxes ∧ (chooseFrame k s).lampMap = s.lampMap ∧
    (chooseFrame k s).deposit = s.deposit ∧ (chooseFrame k s).broadcasts = s.broadcasts ∧
    (chooseFrame k s).calendar = s.calendar ∧ (chooseFrame k s).sweep = s.sweep ∧
    (chooseFrame k s).greetings = s.greetings ∧ (chooseFrame k s).control = s.control ∧
    (chooseFrame k s).reports = s.reports ∧ (chooseFrame k s).counts = s.counts ∧
    (chooseFrame k s).restartTag = s.restartTag ∧ (chooseFrame k s).loader = s.loader ∧
    (chooseFrame k s).failing = s.failing := by
  unfold chooseFrame
  (try dsimp only); (repeat' split) <;> simp

@[simp] theorem chooseLink_keeps (k : Link) (s : State) :
    (chooseLink k s).pending = s.pending ∧ (chooseLink k s).part = s.part ∧ (chooseLink k s).prun = s.prun ∧
    (chooseLink k s).straps = s.straps ∧ (chooseLink k s).now = s.now ∧ (chooseLink k s).transit = s.transit ∧
    (chooseLink k s).slots = s.slots ∧ (chooseLink k s).boxes = s.boxes ∧ (chooseLink k s).lampMap = s.lampMap ∧
    (chooseLink k s).deposit = s.deposit ∧ (chooseLink k s).broadcasts = s.broadcasts ∧
    (chooseLink k s).calendar = s.calendar ∧ (chooseLink k s).sweep = s.sweep ∧
    (chooseLink k s).greetings = s.greetings ∧ (chooseLink k s).control = s.control ∧
    (chooseLink k s).reports = s.reports ∧ (chooseLink k s).counts = s.counts ∧
    (chooseLink k s).restartTag = s.restartTag ∧ (chooseLink k s).loader = s.loader ∧
    (chooseLink k s).failing = s.failing := by
  unfold chooseLink
  (try dsimp only); (repeat' split) <;> simp

@[simp] theorem chooseLinks_keeps (s : State) :
    (chooseLinks s).pending = s.pending ∧ (chooseLinks s).part = s.part ∧ (chooseLinks s).prun = s.prun ∧
    (chooseLinks s).straps = s.straps ∧ (chooseLinks s).now = s.now ∧ (chooseLinks s).transit = s.transit ∧
    (chooseLinks s).slots = s.slots ∧ (chooseLinks s).boxes = s.boxes ∧ (chooseLinks s).lampMap = s.lampMap ∧
    (chooseLinks s).deposit = s.deposit ∧ (chooseLinks s).broadcasts = s.broadcasts ∧
    (chooseLinks s).calendar = s.calendar ∧ (chooseLinks s).sweep = s.sweep ∧
    (chooseLinks s).greetings = s.greetings ∧ (chooseLinks s).control = s.control ∧
    (chooseLinks s).reports = s.reports ∧ (chooseLinks s).counts = s.counts ∧
    (chooseLinks s).restartTag = s.restartTag ∧ (chooseLinks s).loader = s.loader ∧
    (chooseLinks s).failing = s.failing := by
  unfold chooseLinks
  (try dsimp only); (repeat' split) <;> simp

@[simp] theorem haltShelf_keeps (e : Nat) (c : HaltCause) (s : State) :
    (haltShelf e c s).pending = s.pending ∧ (haltShelf e c s).part = s.part ∧ (haltShelf e c s).prun = s.prun ∧
    (haltShelf e c s).straps = s.straps ∧ (haltShelf e c s).now = s.now ∧ (haltShelf e c s).transit = s.transit ∧
    (haltShelf e c s).slots = s.slots ∧ (haltShelf e c s).boxes = s.boxes ∧ (haltShelf e c s).lampMap = s.lampMap ∧
    (haltShelf e c s).deposit = s.deposit ∧ (haltShelf e c s).broadcasts = s.broadcasts ∧
    (haltShelf e c s).calendar = s.calendar ∧ (haltShelf e c s).sweep = s.sweep ∧
    (haltShelf e c s).greetings = s.greetings ∧ (haltShelf e c s).control = s.control ∧
    (haltShelf e c s).counts = s.counts ∧ (haltShelf e c s).restartTag = s.restartTag ∧
    (haltShelf e c s).loader = s.loader ∧ (haltShelf e c s).failing = s.failing := by
  unfold haltShelf
  (try dsimp only); (repeat' split) <;> simp

@[simp] theorem missShelf_keeps (e : Nat) (s : State) :
    (missShelf e s).pending = s.pending ∧ (missShelf e s).part = s.part ∧ (missShelf e s).prun = s.prun ∧
    (missShelf e s).straps = s.straps ∧ (missShelf e s).now = s.now ∧ (missShelf e s).transit = s.transit ∧
    (missShelf e s).slots = s.slots ∧ (missShelf e s).boxes = s.boxes ∧ (missShelf e s).lampMap = s.lampMap ∧
    (missShelf e s).deposit = s.deposit ∧ (missShelf e s).broadcasts = s.broadcasts ∧
    (missShelf e s).calendar = s.calendar ∧ (missShelf e s).sweep = s.sweep ∧
    (missShelf e s).greetings = s.greetings ∧ (missShelf e s).control = s.control ∧
    (missShelf e s).counts = s.counts ∧ (missShelf e s).restartTag = s.restartTag ∧
    (missShelf e s).loader = s.loader ∧ (missShelf e s).failing = s.failing := by
  unfold missShelf
  (try dsimp only); (repeat' split) <;> simp

@[simp] theorem checkErrorShelf_keeps (e : Nat) (s : State) :
    (checkErrorShelf e s).pending = s.pending ∧ (checkErrorShelf e s).part = s.part ∧
    (checkErrorShelf e s).prun = s.prun ∧ (checkErrorShelf e s).straps = s.straps ∧
    (checkErrorShelf e s).now = s.now ∧ (checkErrorShelf e s).transit = s.transit ∧
    (checkErrorShelf e s).slots = s.slots ∧ (checkErrorShelf e s).boxes = s.boxes ∧
    (checkErrorShelf e s).lampMap = s.lampMap ∧ (checkErrorShelf e s).deposit = s.deposit ∧
    (checkErrorShelf e s).broadcasts = s.broadcasts ∧ (checkErrorShelf e s).calendar = s.calendar ∧
    (checkErrorShelf e s).sweep = s.sweep ∧ (checkErrorShelf e s).greetings = s.greetings ∧
    (checkErrorShelf e s).control = s.control ∧ (checkErrorShelf e s).counts = s.counts ∧
    (checkErrorShelf e s).restartTag = s.restartTag ∧ (checkErrorShelf e s).loader = s.loader ∧
    (checkErrorShelf e s).failing = s.failing := by
  unfold checkErrorShelf
  (try dsimp only); (repeat' split) <;> simp

@[simp] theorem judgeWatch_keeps (e : Nat) (r : Reply) (s : State) :
    (judgeWatch e r s).pending = s.pending ∧ (judgeWatch e r s).part = s.part ∧ (judgeWatch e r s).prun = s.prun ∧
    (judgeWatch e r s).straps = s.straps ∧ (judgeWatch e r s).now = s.now ∧
    (judgeWatch e r s).transit = s.transit ∧ (judgeWatch e r s).slots = s.slots ∧
    (judgeWatch e r s).boxes = s.boxes ∧ (judgeWatch e r s).lampMap = s.lampMap ∧
    (judgeWatch e r s).deposit = s.deposit ∧ (judgeWatch e r s).broadcasts = s.broadcasts ∧
    (judgeWatch e r s).calendar = s.calendar ∧ (judgeWatch e r s).sweep = s.sweep ∧
    (judgeWatch e r s).greetings = s.greetings ∧ (judgeWatch e r s).control = s.control ∧
    (judgeWatch e r s).counts = s.counts ∧ (judgeWatch e r s).restartTag = s.restartTag ∧
    (judgeWatch e r s).loader = s.loader ∧ (judgeWatch e r s).failing = s.failing := by
  unfold judgeWatch
  (try dsimp only); (repeat' split) <;> simp

@[simp] theorem shelfAnswers_keeps (e : Nat) (r : Reply) (s : State) :
    (shelfAnswers e r s).pending = s.pending ∧ (shelfAnswers e r s).part = s.part ∧
    (shelfAnswers e r s).prun = s.prun ∧ (shelfAnswers e r s).straps = s.straps ∧
    (shelfAnswers e r s).now = s.now ∧ (shelfAnswers e r s).transit = s.transit ∧
    (shelfAnswers e r s).slots = s.slots ∧ (shelfAnswers e r s).boxes = s.boxes ∧
    (shelfAnswers e r s).lampMap = s.lampMap ∧ (shelfAnswers e r s).deposit = s.deposit ∧
    (shelfAnswers e r s).broadcasts = s.broadcasts ∧ (shelfAnswers e r s).calendar = s.calendar ∧
    (shelfAnswers e r s).sweep = s.sweep ∧ (shelfAnswers e r s).greetings = s.greetings ∧
    (shelfAnswers e r s).control = s.control ∧ (shelfAnswers e r s).counts = s.counts ∧
    (shelfAnswers e r s).restartTag = s.restartTag ∧ (shelfAnswers e r s).loader = s.loader ∧
    (shelfAnswers e r s).failing = s.failing := by
  unfold shelfAnswers
  (try dsimp only); (repeat' split) <;> simp

@[simp] theorem shelfConfirms_keeps (e : Nat) (x : Exchange) (r : Reply) (s : State) :
    (shelfConfirms e x r s).pending = s.pending ∧ (shelfConfirms e x r s).part = s.part ∧
    (shelfConfirms e x r s).prun = s.prun ∧ (shelfConfirms e x r s).straps = s.straps ∧
    (shelfConfirms e x r s).now = s.now ∧ (shelfConfirms e x r s).transit = s.transit ∧
    (shelfConfirms e x r s).slots = s.slots ∧ (shelfConfirms e x r s).boxes = s.boxes ∧
    (shelfConfirms e x r s).lampMap = s.lampMap ∧ (shelfConfirms e x r s).deposit = s.deposit ∧
    (shelfConfirms e x r s).broadcasts = s.broadcasts ∧ (shelfConfirms e x r s).calendar = s.calendar ∧
    (shelfConfirms e x r s).sweep = s.sweep ∧ (shelfConfirms e x r s).greetings = s.greetings ∧
    (shelfConfirms e x r s).control = s.control ∧ (shelfConfirms e x r s).counts = s.counts ∧
    (shelfConfirms e x r s).restartTag = s.restartTag ∧ (shelfConfirms e x r s).loader = s.loader ∧
    (shelfConfirms e x r s).failing = s.failing := by
  unfold shelfConfirms
  (try dsimp only); (repeat' split) <;> simp

@[simp] theorem goodReply_keeps (e : Nat) (x : Exchange) (r : Reply) (s : State) :
    (goodReply e x r s).pending = s.pending ∧ (goodReply e x r s).part = s.part ∧
    (goodReply e x r s).prun = s.prun ∧ (goodReply e x r s).straps = s.straps ∧ (goodReply e x r s).now = s.now ∧
    (goodReply e x r s).transit = s.transit ∧ (goodReply e x r s).slots = s.slots ∧
    (goodReply e x r s).boxes = s.boxes ∧ (goodReply e x r s).lampMap = s.lampMap ∧
    (goodReply e x r s).deposit = s.deposit ∧ (goodReply e x r s).broadcasts = s.broadcasts ∧
    (goodReply e x r s).calendar = s.calendar ∧ (goodReply e x r s).sweep = s.sweep ∧
    (goodReply e x r s).greetings = s.greetings ∧ (goodReply e x r s).control = s.control ∧
    (goodReply e x r s).counts = s.counts ∧ (goodReply e x r s).restartTag = s.restartTag ∧
    (goodReply e x r s).loader = s.loader ∧ (goodReply e x r s).failing = s.failing := by
  unfold goodReply
  (try dsimp only); (repeat' split) <;> simp

@[simp] theorem orphanOutcome_keeps (e : Nat) (s : State) :
    (orphanOutcome e s).pending = s.pending ∧ (orphanOutcome e s).part = s.part ∧
    (orphanOutcome e s).prun = s.prun ∧ (orphanOutcome e s).straps = s.straps ∧ (orphanOutcome e s).now = s.now ∧
    (orphanOutcome e s).transit = s.transit ∧ (orphanOutcome e s).slots = s.slots ∧
    (orphanOutcome e s).boxes = s.boxes ∧ (orphanOutcome e s).lampMap = s.lampMap ∧
    (orphanOutcome e s).deposit = s.deposit ∧ (orphanOutcome e s).broadcasts = s.broadcasts ∧
    (orphanOutcome e s).calendar = s.calendar ∧ (orphanOutcome e s).sweep = s.sweep ∧
    (orphanOutcome e s).greetings = s.greetings ∧ (orphanOutcome e s).control = s.control ∧
    (orphanOutcome e s).reports = s.reports ∧ (orphanOutcome e s).counts = s.counts ∧
    (orphanOutcome e s).restartTag = s.restartTag ∧ (orphanOutcome e s).loader = s.loader ∧
    (orphanOutcome e s).failing = s.failing := by
  unfold orphanOutcome
  (try dsimp only); (repeat' split) <;> simp

@[simp] theorem discardReply_keeps (k : Link) (x : Exchange) (s : State) :
    (discardReply k x s).pending = s.pending ∧ (discardReply k x s).part = s.part ∧
    (discardReply k x s).prun = s.prun ∧ (discardReply k x s).straps = s.straps ∧
    (discardReply k x s).now = s.now ∧ (discardReply k x s).transit = s.transit ∧
    (discardReply k x s).slots = s.slots ∧ (discardReply k x s).boxes = s.boxes ∧
    (discardReply k x s).lampMap = s.lampMap ∧ (discardReply k x s).deposit = s.deposit ∧
    (discardReply k x s).broadcasts = s.broadcasts ∧ (discardReply k x s).calendar = s.calendar ∧
    (discardReply k x s).sweep = s.sweep ∧ (discardReply k x s).greetings = s.greetings ∧
    (discardReply k x s).control = s.control ∧ (discardReply k x s).reports = s.reports ∧
    (discardReply k x s).counts = s.counts ∧ (discardReply k x s).restartTag = s.restartTag ∧
    (discardReply k x s).loader = s.loader ∧ (discardReply k x s).failing = s.failing := by
  unfold discardReply
  (try dsimp only); (repeat' split) <;> simp

@[simp] theorem replyTaken_keeps (k : Link) (ws : List FrameWord) (s : State) :
    (replyTaken k ws s).pending = s.pending ∧ (replyTaken k ws s).part = s.part ∧
    (replyTaken k ws s).prun = s.prun ∧ (replyTaken k ws s).straps = s.straps ∧ (replyTaken k ws s).now = s.now ∧
    (replyTaken k ws s).transit = s.transit ∧ (replyTaken k ws s).slots = s.slots ∧
    (replyTaken k ws s).boxes = s.boxes ∧ (replyTaken k ws s).lampMap = s.lampMap ∧
    (replyTaken k ws s).deposit = s.deposit ∧ (replyTaken k ws s).broadcasts = s.broadcasts ∧
    (replyTaken k ws s).calendar = s.calendar ∧ (replyTaken k ws s).sweep = s.sweep ∧
    (replyTaken k ws s).greetings = s.greetings ∧ (replyTaken k ws s).control = s.control ∧
    (replyTaken k ws s).counts = s.counts ∧ (replyTaken k ws s).restartTag = s.restartTag ∧
    (replyTaken k ws s).loader = s.loader ∧ (replyTaken k ws s).failing = s.failing := by
  unfold replyTaken
  (try dsimp only); (repeat' split) <;> simp

@[simp] theorem replyExpired_keeps (k : Link) (s : State) :
    (replyExpired k s).pending = s.pending ∧ (replyExpired k s).part = s.part ∧ (replyExpired k s).prun = s.prun ∧
    (replyExpired k s).straps = s.straps ∧ (replyExpired k s).transit = s.transit ∧
    (replyExpired k s).slots = s.slots ∧ (replyExpired k s).boxes = s.boxes ∧
    (replyExpired k s).lampMap = s.lampMap ∧ (replyExpired k s).deposit = s.deposit ∧
    (replyExpired k s).broadcasts = s.broadcasts ∧ (replyExpired k s).calendar = s.calendar ∧
    (replyExpired k s).sweep = s.sweep ∧ (replyExpired k s).greetings = s.greetings ∧
    (replyExpired k s).control = s.control ∧ (replyExpired k s).counts = s.counts ∧
    (replyExpired k s).restartTag = s.restartTag ∧ (replyExpired k s).loader = s.loader ∧
    (replyExpired k s).failing = s.failing := by
  unfold replyExpired
  (try dsimp only); (repeat' split) <;> simp

@[simp] theorem probeReached_keeps (e : Nat) (s : State) :
    (probeReached e s).pending = s.pending ∧ (probeReached e s).part = s.part ∧ (probeReached e s).prun = s.prun ∧
    (probeReached e s).straps = s.straps ∧ (probeReached e s).transit = s.transit ∧
    (probeReached e s).slots = s.slots ∧ (probeReached e s).boxes = s.boxes ∧
    (probeReached e s).lampMap = s.lampMap ∧ (probeReached e s).deposit = s.deposit ∧
    (probeReached e s).broadcasts = s.broadcasts ∧ (probeReached e s).calendar = s.calendar ∧
    (probeReached e s).sweep = s.sweep ∧ (probeReached e s).greetings = s.greetings ∧
    (probeReached e s).lamps = s.lamps ∧ (probeReached e s).control = s.control ∧
    (probeReached e s).reports = s.reports ∧ (probeReached e s).counts = s.counts ∧
    (probeReached e s).restartTag = s.restartTag ∧ (probeReached e s).loader = s.loader ∧
    (probeReached e s).failing = s.failing := by
  unfold probeReached
  (try dsimp only); (repeat' split) <;> simp

@[simp] theorem frameEnded_keeps (k : Link) (s : State) :
    (frameEnded k s).pending = s.pending ∧ (frameEnded k s).part = s.part ∧ (frameEnded k s).prun = s.prun ∧
    (frameEnded k s).straps = s.straps ∧ (frameEnded k s).now = s.now ∧ (frameEnded k s).transit = s.transit ∧
    (frameEnded k s).slots = s.slots ∧ (frameEnded k s).boxes = s.boxes ∧ (frameEnded k s).lampMap = s.lampMap ∧
    (frameEnded k s).deposit = s.deposit ∧ (frameEnded k s).broadcasts = s.broadcasts ∧
    (frameEnded k s).calendar = s.calendar ∧ (frameEnded k s).sweep = s.sweep ∧
    (frameEnded k s).greetings = s.greetings ∧ (frameEnded k s).control = s.control ∧
    (frameEnded k s).reports = s.reports ∧ (frameEnded k s).counts = s.counts ∧
    (frameEnded k s).restartTag = s.restartTag ∧ (frameEnded k s).loader = s.loader ∧
    (frameEnded k s).failing = s.failing := by
  unfold frameEnded
  (try dsimp only); (repeat' split) <;> simp

@[simp] theorem replyBegins_keeps (k : Link) (s : State) :
    (replyBegins k s).pending = s.pending ∧ (replyBegins k s).part = s.part ∧ (replyBegins k s).prun = s.prun ∧
    (replyBegins k s).straps = s.straps ∧ (replyBegins k s).now = s.now ∧ (replyBegins k s).transit = s.transit ∧
    (replyBegins k s).slots = s.slots ∧ (replyBegins k s).boxes = s.boxes ∧ (replyBegins k s).lampMap = s.lampMap ∧
    (replyBegins k s).deposit = s.deposit ∧ (replyBegins k s).broadcasts = s.broadcasts ∧
    (replyBegins k s).calendar = s.calendar ∧ (replyBegins k s).sweep = s.sweep ∧
    (replyBegins k s).greetings = s.greetings ∧ (replyBegins k s).control = s.control ∧
    (replyBegins k s).reports = s.reports ∧ (replyBegins k s).counts = s.counts ∧
    (replyBegins k s).restartTag = s.restartTag ∧ (replyBegins k s).loader = s.loader ∧
    (replyBegins k s).failing = s.failing := by
  unfold replyBegins
  (try dsimp only); (repeat' split) <;> simp

@[simp] theorem cadenceTicks_keeps (s : State) :
    (cadenceTicks s).pending = s.pending ∧ (cadenceTicks s).part = s.part ∧ (cadenceTicks s).prun = s.prun ∧
    (cadenceTicks s).straps = s.straps ∧ (cadenceTicks s).now = s.now ∧ (cadenceTicks s).transit = s.transit ∧
    (cadenceTicks s).slots = s.slots ∧ (cadenceTicks s).boxes = s.boxes ∧ (cadenceTicks s).lampMap = s.lampMap ∧
    (cadenceTicks s).deposit = s.deposit ∧ (cadenceTicks s).broadcasts = s.broadcasts ∧
    (cadenceTicks s).calendar = s.calendar ∧ (cadenceTicks s).sweep = s.sweep ∧
    (cadenceTicks s).greetings = s.greetings ∧ (cadenceTicks s).control = s.control ∧
    (cadenceTicks s).reports = s.reports ∧ (cadenceTicks s).counts = s.counts ∧
    (cadenceTicks s).restartTag = s.restartTag ∧ (cadenceTicks s).loader = s.loader ∧
    (cadenceTicks s).failing = s.failing := by
  unfold cadenceTicks
  (try dsimp only); (repeat' split) <;> simp

@[simp] theorem orphanExchange_keeps (k : Link) (s : State) :
    (orphanExchange k s).pending = s.pending ∧ (orphanExchange k s).part = s.part ∧
    (orphanExchange k s).prun = s.prun ∧ (orphanExchange k s).straps = s.straps ∧
    (orphanExchange k s).now = s.now ∧ (orphanExchange k s).transit = s.transit ∧
    (orphanExchange k s).slots = s.slots ∧ (orphanExchange k s).boxes = s.boxes ∧
    (orphanExchange k s).lampMap = s.lampMap ∧ (orphanExchange k s).deposit = s.deposit ∧
    (orphanExchange k s).broadcasts = s.broadcasts ∧ (orphanExchange k s).calendar = s.calendar ∧
    (orphanExchange k s).sweep = s.sweep ∧ (orphanExchange k s).greetings = s.greetings ∧
    (orphanExchange k s).control = s.control ∧ (orphanExchange k s).reports = s.reports ∧
    (orphanExchange k s).counts = s.counts ∧ (orphanExchange k s).restartTag = s.restartTag ∧
    (orphanExchange k s).loader = s.loader ∧ (orphanExchange k s).failing = s.failing := by
  unfold orphanExchange
  (try dsimp only); (repeat' split) <;> simp

@[simp] theorem writeShelf_keeps (e : Nat) (h : Shelf) (s : State) :
    (writeShelf e h s).pending = s.pending ∧ (writeShelf e h s).part = s.part ∧ (writeShelf e h s).prun = s.prun ∧
    (writeShelf e h s).straps = s.straps ∧ (writeShelf e h s).now = s.now ∧
    (writeShelf e h s).transit = s.transit ∧ (writeShelf e h s).slots = s.slots ∧
    (writeShelf e h s).boxes = s.boxes ∧ (writeShelf e h s).lampMap = s.lampMap ∧
    (writeShelf e h s).deposit = s.deposit ∧ (writeShelf e h s).broadcasts = s.broadcasts ∧
    (writeShelf e h s).calendar = s.calendar ∧ (writeShelf e h s).sweep = s.sweep ∧
    (writeShelf e h s).greetings = s.greetings ∧ (writeShelf e h s).control = s.control ∧
    (writeShelf e h s).reports = s.reports ∧ (writeShelf e h s).counts = s.counts ∧
    (writeShelf e h s).restartTag = s.restartTag ∧ (writeShelf e h s).loader = s.loader ∧
    (writeShelf e h s).failing = s.failing := by
  unfold writeShelf
  (try dsimp only); (repeat' split) <;> simp

@[simp] theorem refreshShelf_keeps (e : Nat) (s : State) :
    (refreshShelf e s).pending = s.pending ∧ (refreshShelf e s).part = s.part ∧ (refreshShelf e s).prun = s.prun ∧
    (refreshShelf e s).straps = s.straps ∧ (refreshShelf e s).now = s.now ∧
    (refreshShelf e s).transit = s.transit ∧ (refreshShelf e s).slots = s.slots ∧
    (refreshShelf e s).boxes = s.boxes ∧ (refreshShelf e s).lampMap = s.lampMap ∧
    (refreshShelf e s).deposit = s.deposit ∧ (refreshShelf e s).broadcasts = s.broadcasts ∧
    (refreshShelf e s).calendar = s.calendar ∧ (refreshShelf e s).sweep = s.sweep ∧
    (refreshShelf e s).greetings = s.greetings ∧ (refreshShelf e s).control = s.control ∧
    (refreshShelf e s).reports = s.reports ∧ (refreshShelf e s).counts = s.counts ∧
    (refreshShelf e s).restartTag = s.restartTag ∧ (refreshShelf e s).loader = s.loader ∧
    (refreshShelf e s).failing = s.failing := by
  unfold refreshShelf
  (try dsimp only); (repeat' split) <;> simp

@[simp] theorem forEach_refreshShelf_keeps (l : List Nat) (s : State) :
    (forEach refreshShelf l s).pending = s.pending ∧ (forEach refreshShelf l s).part = s.part ∧
    (forEach refreshShelf l s).prun = s.prun ∧ (forEach refreshShelf l s).straps = s.straps ∧
    (forEach refreshShelf l s).now = s.now ∧ (forEach refreshShelf l s).transit = s.transit ∧
    (forEach refreshShelf l s).slots = s.slots ∧ (forEach refreshShelf l s).boxes = s.boxes ∧
    (forEach refreshShelf l s).lampMap = s.lampMap ∧ (forEach refreshShelf l s).deposit = s.deposit ∧
    (forEach refreshShelf l s).broadcasts = s.broadcasts ∧ (forEach refreshShelf l s).calendar = s.calendar ∧
    (forEach refreshShelf l s).sweep = s.sweep ∧ (forEach refreshShelf l s).greetings = s.greetings ∧
    (forEach refreshShelf l s).control = s.control ∧ (forEach refreshShelf l s).reports = s.reports ∧
    (forEach refreshShelf l s).counts = s.counts ∧ (forEach refreshShelf l s).restartTag = s.restartTag ∧
    (forEach refreshShelf l s).loader = s.loader ∧ (forEach refreshShelf l s).failing = s.failing :=
  ⟨forEach_keeps (·.pending) _ (by intros; simp) _ _,
   forEach_keeps (·.part) _ (by intros; simp) _ _,
   forEach_keeps (·.prun) _ (by intros; simp) _ _,
   forEach_keeps (·.straps) _ (by intros; simp) _ _,
   forEach_keeps (·.now) _ (by intros; simp) _ _,
   forEach_keeps (·.transit) _ (by intros; simp) _ _,
   forEach_keeps (·.slots) _ (by intros; simp) _ _,
   forEach_keeps (·.boxes) _ (by intros; simp) _ _,
   forEach_keeps (·.lampMap) _ (by intros; simp) _ _,
   forEach_keeps (·.deposit) _ (by intros; simp) _ _,
   forEach_keeps (·.broadcasts) _ (by intros; simp) _ _,
   forEach_keeps (·.calendar) _ (by intros; simp) _ _,
   forEach_keeps (·.sweep) _ (by intros; simp) _ _,
   forEach_keeps (·.greetings) _ (by intros; simp) _ _,
   forEach_keeps (·.control) _ (by intros; simp) _ _,
   forEach_keeps (·.reports) _ (by intros; simp) _ _,
   forEach_keeps (·.counts) _ (by intros; simp) _ _,
   forEach_keeps (·.restartTag) _ (by intros; simp) _ _,
   forEach_keeps (·.loader) _ (by intros; simp) _ _,
   forEach_keeps (·.failing) _ (by intros; simp) _ _⟩

@[simp] theorem commandRefresh_keeps (c : Command) (s : State) :
    (commandRefresh c s).pending = s.pending ∧ (commandRefresh c s).part = s.part ∧
    (commandRefresh c s).prun = s.prun ∧ (commandRefresh c s).straps = s.straps ∧
    (commandRefresh c s).now = s.now ∧ (commandRefresh c s).transit = s.transit ∧
    (commandRefresh c s).slots = s.slots ∧ (commandRefresh c s).boxes = s.boxes ∧
    (commandRefresh c s).lampMap = s.lampMap ∧ (commandRefresh c s).deposit = s.deposit ∧
    (commandRefresh c s).broadcasts = s.broadcasts ∧ (commandRefresh c s).calendar = s.calendar ∧
    (commandRefresh c s).sweep = s.sweep ∧ (commandRefresh c s).greetings = s.greetings ∧
    (commandRefresh c s).control = s.control ∧ (commandRefresh c s).counts = s.counts ∧
    (commandRefresh c s).restartTag = s.restartTag ∧ (commandRefresh c s).loader = s.loader ∧
    (commandRefresh c s).failing = s.failing := by
  unfold commandRefresh
  (try dsimp only); (repeat' split) <;> simp

@[simp] theorem setPrun_keeps (h : Bool) (s : State) :
    (setPrun h s).pending = s.pending ∧ (setPrun h s).part = s.part ∧ (setPrun h s).straps = s.straps ∧
    (setPrun h s).now = s.now ∧ (setPrun h s).transit = s.transit ∧ (setPrun h s).slots = s.slots ∧
    (setPrun h s).boxes = s.boxes ∧ (setPrun h s).lampMap = s.lampMap ∧ (setPrun h s).deposit = s.deposit ∧
    (setPrun h s).broadcasts = s.broadcasts ∧ (setPrun h s).calendar = s.calendar ∧ (setPrun h s).sweep = s.sweep ∧
    (setPrun h s).greetings = s.greetings ∧ (setPrun h s).control = s.control ∧ (setPrun h s).counts = s.counts ∧
    (setPrun h s).restartTag = s.restartTag ∧ (setPrun h s).loader = s.loader ∧ (setPrun h s).failing = s.failing := by
  unfold setPrun
  (try dsimp only); (repeat' split) <;> simp

/-! ### Control Area -/

@[simp] theorem forEach_updateBox_id_keeps (l : List Nat) (s : State) :
    (forEach (fun m => updateBox m id) l s).pending = s.pending ∧
    (forEach (fun m => updateBox m id) l s).part = s.part ∧ (forEach (fun m => updateBox m id) l s).prun = s.prun ∧
    (forEach (fun m => updateBox m id) l s).straps = s.straps ∧
    (forEach (fun m => updateBox m id) l s).now = s.now ∧
    (forEach (fun m => updateBox m id) l s).transit = s.transit ∧
    (forEach (fun m => updateBox m id) l s).slots = s.slots ∧
    (forEach (fun m => updateBox m id) l s).lampMap = s.lampMap ∧
    (forEach (fun m => updateBox m id) l s).deposit = s.deposit ∧
    (forEach (fun m => updateBox m id) l s).broadcasts = s.broadcasts ∧
    (forEach (fun m => updateBox m id) l s).calendar = s.calendar ∧
    (forEach (fun m => updateBox m id) l s).sweep = s.sweep ∧
    (forEach (fun m => updateBox m id) l s).greetings = s.greetings ∧
    (forEach (fun m => updateBox m id) l s).control = s.control ∧
    (forEach (fun m => updateBox m id) l s).reports = s.reports ∧
    (forEach (fun m => updateBox m id) l s).counts = s.counts ∧
    (forEach (fun m => updateBox m id) l s).restartTag = s.restartTag ∧
    (forEach (fun m => updateBox m id) l s).loader = s.loader ∧
    (forEach (fun m => updateBox m id) l s).failing = s.failing :=
  forEach_updateBox_keeps (fun _ => id) l s

@[simp] theorem writeClass_keeps (i : Nat) (c : ClassEntry) (s : State) :
    (writeClass i c s).pending = s.pending ∧ (writeClass i c s).part = s.part ∧ (writeClass i c s).prun = s.prun ∧
    (writeClass i c s).straps = s.straps ∧ (writeClass i c s).now = s.now ∧
    (writeClass i c s).transit = s.transit ∧ (writeClass i c s).slots = s.slots ∧
    (writeClass i c s).lampMap = s.lampMap ∧ (writeClass i c s).deposit = s.deposit ∧
    (writeClass i c s).broadcasts = s.broadcasts ∧ (writeClass i c s).calendar = s.calendar ∧
    (writeClass i c s).sweep = s.sweep ∧ (writeClass i c s).greetings = s.greetings ∧
    (writeClass i c s).reports = s.reports ∧ (writeClass i c s).counts = s.counts ∧
    (writeClass i c s).restartTag = s.restartTag ∧ (writeClass i c s).loader = s.loader ∧
    (writeClass i c s).failing = s.failing := by
  unfold writeClass
  (try dsimp only); (repeat' split) <;> simp

@[simp] theorem takeCommand_keeps (c : Command) (s : State) :
    (takeCommand c s).pending = s.pending ∧ (takeCommand c s).part = s.part ∧ (takeCommand c s).prun = s.prun ∧
    (takeCommand c s).straps = s.straps ∧ (takeCommand c s).now = s.now ∧ (takeCommand c s).transit = s.transit ∧
    (takeCommand c s).slots = s.slots ∧ (takeCommand c s).lampMap = s.lampMap ∧
    (takeCommand c s).deposit = s.deposit ∧ (takeCommand c s).greetings = s.greetings ∧
    (takeCommand c s).counts = s.counts ∧ (takeCommand c s).loader = s.loader ∧
    (takeCommand c s).failing = s.failing := by
  unfold takeCommand
  (try dsimp only); (repeat' split) <;> simp

@[simp] theorem takeRecord_keeps (b : List Byte) (a : AreaRecord) (s : State) :
    (takeRecord b a s).pending = s.pending ∧ (takeRecord b a s).part = s.part ∧ (takeRecord b a s).prun = s.prun ∧
    (takeRecord b a s).straps = s.straps ∧ (takeRecord b a s).now = s.now ∧
    (takeRecord b a s).transit = s.transit ∧ (takeRecord b a s).slots = s.slots ∧
    (takeRecord b a s).lampMap = s.lampMap ∧ (takeRecord b a s).counts = s.counts ∧
    (takeRecord b a s).loader = s.loader ∧ (takeRecord b a s).failing = s.failing := by
  unfold takeRecord
  (try dsimp only); (repeat' split) <;> simp

@[simp] theorem takeRecords_keeps (line : List Lane) (as : List AreaRecord) (s : State) :
    (takeRecords line as s).pending = s.pending ∧ (takeRecords line as s).part = s.part ∧
    (takeRecords line as s).prun = s.prun ∧ (takeRecords line as s).straps = s.straps ∧
    (takeRecords line as s).now = s.now ∧ (takeRecords line as s).transit = s.transit ∧
    (takeRecords line as s).slots = s.slots ∧ (takeRecords line as s).lampMap = s.lampMap ∧
    (takeRecords line as s).counts = s.counts ∧ (takeRecords line as s).loader = s.loader ∧
    (takeRecords line as s).failing = s.failing := by
  induction as generalizing s with
  | nil => simp [takeRecords]
  | cons a as ih => simp [takeRecords, ih]

@[simp] theorem reportRefusals_keeps (area : Nat) (fs : List (AreaRecord × CheckName)) (s : State) :
    (reportRefusals area fs s).pending = s.pending ∧ (reportRefusals area fs s).part = s.part ∧
    (reportRefusals area fs s).prun = s.prun ∧ (reportRefusals area fs s).straps = s.straps ∧
    (reportRefusals area fs s).now = s.now ∧ (reportRefusals area fs s).transit = s.transit ∧
    (reportRefusals area fs s).slots = s.slots ∧ (reportRefusals area fs s).boxes = s.boxes ∧
    (reportRefusals area fs s).lampMap = s.lampMap ∧ (reportRefusals area fs s).deposit = s.deposit ∧
    (reportRefusals area fs s).broadcasts = s.broadcasts ∧ (reportRefusals area fs s).calendar = s.calendar ∧
    (reportRefusals area fs s).sweep = s.sweep ∧ (reportRefusals area fs s).greetings = s.greetings ∧
    (reportRefusals area fs s).lamps = s.lamps ∧ (reportRefusals area fs s).control = s.control ∧
    (reportRefusals area fs s).counts = s.counts ∧ (reportRefusals area fs s).restartTag = s.restartTag ∧
    (reportRefusals area fs s).loader = s.loader ∧ (reportRefusals area fs s).failing = s.failing := by
  induction fs generalizing s with
  | nil => simp [reportRefusals]
  | cons f fs ih =>
      obtain ⟨a, c⟩ := f
      simp [reportRefusals, ih]

@[simp] theorem readArea_keeps (o : Nat) (r : HostRead) (s : State) :
    (readArea o r s).pending = s.pending ∧ (readArea o r s).part = s.part ∧ (readArea o r s).prun = s.prun ∧
    (readArea o r s).straps = s.straps ∧ (readArea o r s).now = s.now ∧
    (readArea o r s).transit.ctlSel = s.transit.ctlSel ∧ (readArea o r s).transit.regions = s.transit.regions ∧
    (readArea o r s).transit.arrivals = s.transit.arrivals ∧ (readArea o r s).transit.turn = s.transit.turn ∧
    (readArea o r s).transit.returned = s.transit.returned ∧ (readArea o r s).slots = s.slots ∧
    (readArea o r s).boxes = s.boxes ∧ (readArea o r s).lampMap = s.lampMap ∧
    (readArea o r s).deposit = s.deposit ∧ (readArea o r s).broadcasts = s.broadcasts ∧
    (readArea o r s).calendar = s.calendar ∧ (readArea o r s).sweep = s.sweep ∧
    (readArea o r s).greetings = s.greetings ∧ (readArea o r s).lamps = s.lamps ∧
    (readArea o r s).control = s.control ∧ (readArea o r s).reports = s.reports ∧
    (readArea o r s).counts = s.counts ∧ (readArea o r s).restartTag = s.restartTag ∧
    (readArea o r s).loader = s.loader ∧ (readArea o r s).failing = s.failing := by
  unfold readArea
  (try dsimp only); (repeat' split) <;> simp

@[simp] theorem writeReport_keeps (s : State) :
    (writeReport s).pending = s.pending ∧ (writeReport s).part = s.part ∧ (writeReport s).prun = s.prun ∧
    (writeReport s).straps = s.straps ∧ (writeReport s).now = s.now ∧
    (writeReport s).transit.ctlSel = s.transit.ctlSel ∧ (writeReport s).transit.regions = s.transit.regions ∧
    (writeReport s).transit.arrivals = s.transit.arrivals ∧ (writeReport s).transit.turn = s.transit.turn ∧
    (writeReport s).transit.order = s.transit.order ∧ (writeReport s).transit.returned = s.transit.returned ∧
    (writeReport s).slots = s.slots ∧ (writeReport s).boxes = s.boxes ∧ (writeReport s).lampMap = s.lampMap ∧
    (writeReport s).deposit = s.deposit ∧ (writeReport s).broadcasts = s.broadcasts ∧
    (writeReport s).calendar = s.calendar ∧ (writeReport s).sweep = s.sweep ∧
    (writeReport s).greetings = s.greetings ∧ (writeReport s).lamps = s.lamps ∧
    (writeReport s).control = s.control ∧ (writeReport s).counts = s.counts ∧
    (writeReport s).restartTag = s.restartTag ∧ (writeReport s).loader = s.loader ∧
    (writeReport s).failing = s.failing := by
  unfold writeReport
  (try dsimp only); (repeat' split) <;> simp

@[simp] theorem reportAnswered_keeps (f : Bool) (s : State) :
    (reportAnswered f s).pending = s.pending ∧ (reportAnswered f s).part = s.part ∧
    (reportAnswered f s).prun = s.prun ∧ (reportAnswered f s).straps = s.straps ∧
    (reportAnswered f s).now = s.now ∧ (reportAnswered f s).transit = s.transit ∧
    (reportAnswered f s).slots = s.slots ∧ (reportAnswered f s).boxes = s.boxes ∧
    (reportAnswered f s).lampMap = s.lampMap ∧ (reportAnswered f s).deposit = s.deposit ∧
    (reportAnswered f s).broadcasts = s.broadcasts ∧ (reportAnswered f s).calendar = s.calendar ∧
    (reportAnswered f s).sweep = s.sweep ∧ (reportAnswered f s).greetings = s.greetings ∧
    (reportAnswered f s).lamps = s.lamps ∧ (reportAnswered f s).control = s.control ∧
    (reportAnswered f s).counts = s.counts ∧ (reportAnswered f s).restartTag = s.restartTag ∧
    (reportAnswered f s).loader = s.loader ∧ (reportAnswered f s).failing = s.failing := by
  unfold reportAnswered
  (try dsimp only); (repeat' split) <;> simp

/-! ### The Transit Unit -/

@[simp] theorem passTurn_keeps (s : State) :
    (passTurn s).pending = s.pending ∧ (passTurn s).part = s.part ∧ (passTurn s).prun = s.prun ∧
    (passTurn s).straps = s.straps ∧ (passTurn s).now = s.now ∧ (passTurn s).transit.ctlSel = s.transit.ctlSel ∧
    (passTurn s).transit.regions = s.transit.regions ∧ (passTurn s).transit.arrivals = s.transit.arrivals ∧
    (passTurn s).transit.queue = s.transit.queue ∧ (passTurn s).transit.joined = s.transit.joined ∧
    (passTurn s).transit.order = s.transit.order ∧ (passTurn s).transit.returned = s.transit.returned ∧
    (passTurn s).slots = s.slots ∧ (passTurn s).boxes = s.boxes ∧ (passTurn s).lampMap = s.lampMap ∧
    (passTurn s).deposit = s.deposit ∧ (passTurn s).broadcasts = s.broadcasts ∧
    (passTurn s).calendar = s.calendar ∧ (passTurn s).sweep = s.sweep ∧ (passTurn s).greetings = s.greetings ∧
    (passTurn s).lamps = s.lamps ∧ (passTurn s).control = s.control ∧ (passTurn s).reports = s.reports ∧
    (passTurn s).counts = s.counts ∧ (passTurn s).restartTag = s.restartTag ∧ (passTurn s).loader = s.loader ∧
    (passTurn s).failing = s.failing := by
  unfold passTurn
  simp

@[simp] theorem calm_keeps (s : State) :
    (calm s).pending = s.pending ∧ (calm s).part = s.part ∧ (calm s).prun = s.prun ∧ (calm s).straps = s.straps ∧
    (calm s).now = s.now ∧ (calm s).transit.ctlSel = s.transit.ctlSel ∧
    (calm s).transit.regions = s.transit.regions ∧ (calm s).transit.arrivals = s.transit.arrivals ∧
    (calm s).transit.queue = s.transit.queue ∧ (calm s).transit.joined = s.transit.joined ∧
    (calm s).slots = s.slots ∧ (calm s).boxes = s.boxes ∧ (calm s).lampMap = s.lampMap ∧
    (calm s).deposit = s.deposit ∧ (calm s).broadcasts = s.broadcasts ∧ (calm s).calendar = s.calendar ∧
    (calm s).sweep = s.sweep ∧ (calm s).greetings = s.greetings ∧ (calm s).control = s.control ∧
    (calm s).reports = s.reports ∧ (calm s).counts = s.counts ∧ (calm s).restartTag = s.restartTag ∧
    (calm s).loader = s.loader ∧ (calm s).failing = s.failing := by
  unfold calm
  simp

@[simp] theorem forwardPlain_keeps (t : HostTxn) (s : State) :
    (forwardPlain t s).pending = s.pending ∧ (forwardPlain t s).part = s.part ∧ (forwardPlain t s).prun = s.prun ∧
    (forwardPlain t s).straps = s.straps ∧ (forwardPlain t s).now = s.now ∧
    (forwardPlain t s).transit.ctlSel = s.transit.ctlSel ∧ (forwardPlain t s).transit.regions = s.transit.regions ∧
    (forwardPlain t s).transit.arrivals = s.transit.arrivals ∧ (forwardPlain t s).transit.turn = s.transit.turn ∧
    (forwardPlain t s).transit.returned = s.transit.returned ∧ (forwardPlain t s).slots = s.slots ∧
    (forwardPlain t s).boxes = s.boxes ∧ (forwardPlain t s).lampMap = s.lampMap ∧
    (forwardPlain t s).deposit = s.deposit ∧ (forwardPlain t s).broadcasts = s.broadcasts ∧
    (forwardPlain t s).calendar = s.calendar ∧ (forwardPlain t s).sweep = s.sweep ∧
    (forwardPlain t s).greetings = s.greetings ∧ (forwardPlain t s).lamps = s.lamps ∧
    (forwardPlain t s).control = s.control ∧ (forwardPlain t s).reports = s.reports ∧
    (forwardPlain t s).counts = s.counts ∧ (forwardPlain t s).restartTag = s.restartTag ∧
    (forwardPlain t s).loader = s.loader ∧ (forwardPlain t s).failing = s.failing := by
  unfold forwardPlain
  (try dsimp only); (repeat' split) <;> simp

@[simp] theorem refuseTxn_keeps (t : HostTxn) (s : State) :
    (refuseTxn t s).pending = s.pending ∧ (refuseTxn t s).part = s.part ∧ (refuseTxn t s).prun = s.prun ∧
    (refuseTxn t s).straps = s.straps ∧ (refuseTxn t s).now = s.now ∧
    (refuseTxn t s).transit.ctlSel = s.transit.ctlSel ∧ (refuseTxn t s).transit.regions = s.transit.regions ∧
    (refuseTxn t s).transit.arrivals = s.transit.arrivals ∧ (refuseTxn t s).transit.queue = s.transit.queue ∧
    (refuseTxn t s).transit.joined = s.transit.joined ∧ (refuseTxn t s).transit.turn = s.transit.turn ∧
    (refuseTxn t s).transit.returned = s.transit.returned ∧ (refuseTxn t s).slots = s.slots ∧
    (refuseTxn t s).boxes = s.boxes ∧ (refuseTxn t s).lampMap = s.lampMap ∧ (refuseTxn t s).deposit = s.deposit ∧
    (refuseTxn t s).broadcasts = s.broadcasts ∧ (refuseTxn t s).calendar = s.calendar ∧
    (refuseTxn t s).sweep = s.sweep ∧ (refuseTxn t s).greetings = s.greetings ∧ (refuseTxn t s).lamps = s.lamps ∧
    (refuseTxn t s).control = s.control ∧ (refuseTxn t s).reports = s.reports ∧ (refuseTxn t s).counts = s.counts ∧
    (refuseTxn t s).restartTag = s.restartTag ∧ (refuseTxn t s).loader = s.loader ∧
    (refuseTxn t s).failing = s.failing := by
  unfold refuseTxn
  (try dsimp only); (repeat' split) <;> simp

@[simp] theorem takeMisformed_keeps (t : HostTxn) (f : FormFault) (s : State) :
    (takeMisformed t f s).pending = s.pending ∧ (takeMisformed t f s).part = s.part ∧
    (takeMisformed t f s).prun = s.prun ∧ (takeMisformed t f s).straps = s.straps ∧
    (takeMisformed t f s).now = s.now ∧ (takeMisformed t f s).transit.ctlSel = s.transit.ctlSel ∧
    (takeMisformed t f s).transit.regions = s.transit.regions ∧
    (takeMisformed t f s).transit.arrivals = s.transit.arrivals ∧
    (takeMisformed t f s).transit.queue = s.transit.queue ∧
    (takeMisformed t f s).transit.joined = s.transit.joined ∧ (takeMisformed t f s).transit.turn = s.transit.turn ∧
    (takeMisformed t f s).transit.returned = s.transit.returned ∧ (takeMisformed t f s).slots = s.slots ∧
    (takeMisformed t f s).boxes = s.boxes ∧ (takeMisformed t f s).lampMap = s.lampMap ∧
    (takeMisformed t f s).deposit = s.deposit ∧ (takeMisformed t f s).broadcasts = s.broadcasts ∧
    (takeMisformed t f s).calendar = s.calendar ∧ (takeMisformed t f s).sweep = s.sweep ∧
    (takeMisformed t f s).greetings = s.greetings ∧ (takeMisformed t f s).lamps = s.lamps ∧
    (takeMisformed t f s).control = s.control ∧ (takeMisformed t f s).counts = s.counts ∧
    (takeMisformed t f s).restartTag = s.restartTag ∧ (takeMisformed t f s).loader = s.loader ∧
    (takeMisformed t f s).failing = s.failing := by
  unfold takeMisformed
  (try dsimp only); (repeat' split) <;> simp

@[simp] theorem refuseInPlay_keeps (w : HostWrite) (l : Latch) (s : State) :
    (refuseInPlay w l s).pending = s.pending ∧ (refuseInPlay w l s).part = s.part ∧
    (refuseInPlay w l s).prun = s.prun ∧ (refuseInPlay w l s).straps = s.straps ∧
    (refuseInPlay w l s).now = s.now ∧ (refuseInPlay w l s).transit.ctlSel = s.transit.ctlSel ∧
    (refuseInPlay w l s).transit.regions = s.transit.regions ∧
    (refuseInPlay w l s).transit.arrivals = s.transit.arrivals ∧
    (refuseInPlay w l s).transit.queue = s.transit.queue ∧ (refuseInPlay w l s).transit.joined = s.transit.joined ∧
    (refuseInPlay w l s).transit.turn = s.transit.turn ∧
    (refuseInPlay w l s).transit.returned = s.transit.returned ∧ (refuseInPlay w l s).slots = s.slots ∧
    (refuseInPlay w l s).boxes = s.boxes ∧ (refuseInPlay w l s).lampMap = s.lampMap ∧
    (refuseInPlay w l s).deposit = s.deposit ∧ (refuseInPlay w l s).broadcasts = s.broadcasts ∧
    (refuseInPlay w l s).calendar = s.calendar ∧ (refuseInPlay w l s).sweep = s.sweep ∧
    (refuseInPlay w l s).greetings = s.greetings ∧ (refuseInPlay w l s).lamps = s.lamps ∧
    (refuseInPlay w l s).control = s.control ∧ (refuseInPlay w l s).counts = s.counts ∧
    (refuseInPlay w l s).restartTag = s.restartTag ∧ (refuseInPlay w l s).loader = s.loader ∧
    (refuseInPlay w l s).failing = s.failing := by
  unfold refuseInPlay
  (try dsimp only); (repeat' split) <;> simp

end Sys2Proof.Machine
end

