-- ==== Sys2Proof/Laws/Sparse.lean ====
section
/-! SUPPORT. Sparse data: what a write leaves at each key, and that it keeps the canonical form; with the records of the
directories and tables that stand on it. -/

namespace Sys2Proof.Machine

variable {α : Type}

theorem sparseGet_filter_same (d : α) (m : Sparse α) (k : Nat) : sparseGet d (m.filter (·.1 != k)) k = d := by
  induction m with
  | nil => rfl
  | cons e m ih =>
      obtain ⟨j, u⟩ := e
      by_cases h : j = k
      · simp [h, ih]
      · have h' : k ≠ j := fun x => h x.symm
        simp [h, h', sparseGet, ih]

theorem sparseGet_filter_other (d : α) (m : Sparse α) {k i : Nat} (hi : i ≠ k) :
    sparseGet d (m.filter (·.1 != k)) i = sparseGet d m i := by
  induction m with
  | nil => rfl
  | cons e m ih =>
      obtain ⟨j, u⟩ := e
      by_cases h : j = k
      · subst h
        simp [sparseGet, hi, ih]
      · simp [h, sparseGet, ih]

theorem sparseGet_insert_same (d : α) (m : Sparse α) (k : Nat) (v : α) (h : ∀ e ∈ m, e.1 ≠ k) :
    sparseGet d (sparseInsert k v m) k = v := by
  induction m with
  | nil => simp [sparseInsert, sparseGet]
  | cons e m ih =>
      obtain ⟨j, u⟩ := e
      have hj : k ≠ j := fun x => h (j, u) (by simp) x.symm
      have ht : ∀ e ∈ m, e.1 ≠ k := fun e he => h e (by simp [he])
      unfold sparseInsert
      split <;> simp [sparseGet, hj, ih ht]

theorem sparseGet_insert_other (d : α) (m : Sparse α) {k i : Nat} (v : α) (hi : i ≠ k) :
    sparseGet d (sparseInsert k v m) i = sparseGet d m i := by
  induction m with
  | nil => simp [sparseInsert, sparseGet, hi]
  | cons e m ih =>
      obtain ⟨j, u⟩ := e
      unfold sparseInsert
      split <;> simp [sparseGet, hi, ih]

variable [DecidableEq α]

/-- A write, seen at any key. -/
theorem sparseGet_set (d : α) (m : Sparse α) (k i : Nat) (v : α) :
    sparseGet d (sparseSet d m k v) i = if i = k then v else sparseGet d m i := by
  have hk : ∀ e ∈ m.filter (·.1 != k), e.1 ≠ k := by
    intro e he
    simpa using (List.mem_filter.mp he).2
  by_cases hi : i = k
  · subst hi
    by_cases hv : v = d
    · simp [sparseSet, hv, sparseGet_filter_same]
    · simp [sparseSet, hv, sparseGet_insert_same d _ i v hk]
  · by_cases hv : v = d
    · simp [sparseSet, hv, hi, sparseGet_filter_other d m hi]
    · simp [sparseSet, hv, hi, sparseGet_insert_other d _ v hi, sparseGet_filter_other d m hi]

theorem sparseWf_cons {d : α} {e : Nat × α} {m : Sparse α} :
    sparseWf d (e :: m) = true ↔ e.2 ≠ d ∧ (∀ x ∈ m, e.1 < x.1) ∧ sparseWf d m = true := by
  obtain ⟨j, u⟩ := e
  simp [sparseWf, and_assoc]

theorem sparseWf_filter {d : α} {m : Sparse α} (p : Nat × α → Bool) (h : sparseWf d m = true) :
    sparseWf d (m.filter p) = true := by
  induction m with
  | nil => simpa using h
  | cons e m ih =>
      obtain ⟨h1, h2, h3⟩ := sparseWf_cons.mp h
      by_cases hp : p e
      · rw [List.filter_cons_of_pos hp]
        exact sparseWf_cons.mpr ⟨h1, fun x hx => h2 x (List.mem_filter.mp hx).1, ih h3⟩
      · rw [List.filter_cons_of_neg hp]
        exact ih h3

omit [DecidableEq α] in
theorem mem_sparseInsert {k : Nat} {v : α} {m : Sparse α} {x : Nat × α} (h : x ∈ sparseInsert k v m) :
    x = (k, v) ∨ x ∈ m := by
  induction m with
  | nil => simpa [sparseInsert] using h
  | cons e m ih =>
      obtain ⟨j, u⟩ := e
      unfold sparseInsert at h
      split at h
      · simpa using h
      · rcases List.mem_cons.mp h with h | h
        · exact Or.inr (by simp [h])
        · rcases ih h with h | h
          · exact Or.inl h
          · exact Or.inr (by simp [h])

theorem sparseWf_insert {d : α} {k : Nat} {v : α} {m : Sparse α} (h : sparseWf d m = true) (hv : v ≠ d)
    (hk : ∀ e ∈ m, e.1 ≠ k) : sparseWf d (sparseInsert k v m) = true := by
  induction m with
  | nil => simp [sparseInsert, sparseWf, hv]
  | cons e m ih =>
      obtain ⟨h1, h2, h3⟩ := sparseWf_cons.mp h
      obtain ⟨j, u⟩ := e
      have hj : j ≠ k := hk (j, u) (by simp)
      have ht : ∀ e ∈ m, e.1 ≠ k := fun e he => hk e (by simp [he])
      unfold sparseInsert
      split
      · rename_i hlt
        refine sparseWf_cons.mpr ⟨hv, ?_, h⟩
        intro x hx
        rcases List.mem_cons.mp hx with hx | hx
        · simpa [hx] using hlt
        · exact Nat.lt_trans hlt (h2 x hx)
      · rename_i hge
        refine sparseWf_cons.mpr ⟨h1, ?_, ih h3 ht⟩
        intro x hx
        rcases mem_sparseInsert hx with hx | hx
        · rw [hx]
          have : ¬ k < j := hge
          simp only
          omega
        · exact h2 x hx

/-- A write keeps the canonical form. -/
theorem sparseWf_set {d : α} {m : Sparse α} (h : sparseWf d m = true) (k : Nat) (v : α) :
    sparseWf d (sparseSet d m k v) = true := by
  unfold sparseSet
  split
  · exact sparseWf_filter _ h
  · rename_i hv
    refine sparseWf_insert (sparseWf_filter _ h) hv ?_
    intro e he
    simpa using (List.mem_filter.mp he).2

/-! ### Records -/

@[simp] theorem slotAt_putSlot (n i : Nat) (r : SlotRec) (s : State) :
    slotAt (putSlot n r s) i = if i = n then r else slotAt s i := sparseGet_set _ _ _ _ _

@[simp] theorem boxAt_putBox (m i : Nat) (b : MailboxRec) (s : State) :
    boxAt (putBox m b s) i = if i = m then b else boxAt s i := sparseGet_set _ _ _ _ _

@[simp] theorem holderAt_putHolder (p i : Nat) (m : Option Nat) (s : State) :
    holderAt (putHolder p m s) i = if i = p then m else holderAt s i := sparseGet_set _ _ _ _ _

omit [DecidableEq α] in
/-- A table cell after a write in bounds or past the end. -/
theorem cell_set {n : Nat} (v : Vector α n) (k i : Nat) (x d : α) :
    (v.setIfInBounds k x)[i]?.getD d = if i = k ∧ k < n then x else v[i]?.getD d := by
  rw [Vector.getElem?_setIfInBounds]
  by_cases h : k = i
  · subst h
    by_cases hk : k < n <;> simp [hk]
  · have h' : ¬ i = k := fun x => h x.symm
    simp [h, h']

@[simp] theorem broadcastAt_putBroadcast (n i : Nat) (b : Broadcast) (s : State) :
    broadcastAt (putBroadcast n b s) i = if i = n ∧ n < 16 then b else broadcastAt s i := cell_set _ _ _ _ _

@[simp] theorem contextAt_putContext (k i : Nat) (c : Option Context) (s : State) :
    contextAt (putContext k c s) i = if i = k ∧ k < 48 then c else contextAt s i := cell_set _ _ _ _ _

@[simp] theorem contextAt_releaseContext (k i : Nat) (s : State) :
    contextAt (releaseContext k s) i = if i = k ∧ k < 48 then none else contextAt s i := cell_set _ _ _ _ _

@[simp] theorem latchAt_putLatch (k i : Nat) (l : Option Latch) (s : State) :
    latchAt (putLatch k l s) i = if i = k ∧ k < 48 then l else latchAt s i := cell_set _ _ _ _ _

@[simp] theorem latchAt_releaseLatch (k i : Nat) (s : State) :
    latchAt (releaseLatch k s) i = if i = k ∧ k < 48 then none else latchAt s i := cell_set _ _ _ _ _

@[simp] theorem calibrationAt_writeCalibration (k i : Nat) (c : Calibration) (s : State) :
    calibrationAt (writeCalibration k c s) i = if i = k ∧ k < 4 then c else calibrationAt s i := cell_set _ _ _ _ _

@[simp] theorem scheduleAt_writeSchedule (k i : Nat) (ws : List Window) (s : State) :
    scheduleAt (writeSchedule k ws s) i = if i = k ∧ k < 64 then ws else scheduleAt s i := cell_set _ _ _ _ _

end Sys2Proof.Machine
end

