-- ==== Sys2Proof/Laws/Failure.lean ====
section
/-! SUPPORT. What emptying the shadows leaves, and what a load that fails, its draining and its settling in FAILED can do,
said once for each. -/

namespace Sys2Proof.Machine

/-- A cell of a table whose cells are all alike. -/
theorem cell_replicate {α : Type} (n : Nat) (d : α) (k : Nat) : ((Vector.replicate n d)[k]?).getD d = d := by
  by_cases hk : k < n <;> simp [hk]

/-- Emptied shadows, every cell of every table at its empty value. -/
theorem clearShadows_empty (s : State) : ShadowsEmpty (clearShadows s) :=
  ⟨rfl, rfl, rfl, rfl, cell_replicate 48 none, rfl, cell_replicate 4 Calibration.default,
    cell_replicate 16 Broadcast.absent, rfl, cell_replicate 64 [], rfl, cell_replicate 48 none, rfl,
    cell_replicate 192 Shelf.empty, (fun k => by cases k <;> rfl), rfl, rfl, cell_replicate 8 ClassEntry.default⟩

/-- A failing load leaves the part state, the order and the arrivals, drains its loader's entries, and keeps its cause. -/
theorem failLoad_leaves (cause : LoadFailure) (s : State) :
    (failLoad cause s).part = s.part ∧ (failLoad cause s).loader = none ∧ (failLoad cause s).failing = some cause
    ∧ (failLoad cause s).transit.queue = s.transit.queue.map orphanLoader
    ∧ (failLoad cause s).transit.order = s.transit.order ∧ (failLoad cause s).transit.arrivals = s.transit.arrivals
    ∧ (failLoad cause s).slots = [] ∧ (failLoad cause s).boxes = [] ∧ (failLoad cause s).lampMap = []
    ∧ (failLoad cause s).pending = s.pending ∧ (failLoad cause s).calendar = s.calendar
    ∧ (failLoad cause s).now = s.now := ⟨rfl, rfl, rfl, rfl, rfl, rfl, rfl, rfl, rfl, rfl, rfl, rfl⟩

/-- Entry to FAILED leaves every shadow empty and changes, beside them, the part state, the turn, the cause and the reports
alone. -/
theorem enterFailed_changes (cause : LoadFailure) (s : State) :
    enterFailed cause s = { clearShadows s with
      part := .failed, transit := { s.transit with regions := [], turn := .upstream }, failing := none
      reports := (enterFailed cause s).reports } := by
  unfold enterFailed
  split
  · rfl
  · rfl

/-- Settling does nothing, or enters FAILED with the cause kept, no entry being left to drain. -/
theorem settleFailure_cases (s : State) :
    settleFailure s = s ∨ ∃ cause, s.failing = some cause ∧ s.transit.queue.any isDraining = false
      ∧ settleFailure s = enterFailed cause s := by
  unfold settleFailure
  split
  · rename_i cause h
    split
    · exact .inl rfl
    · rename_i hq
      exact .inr ⟨cause, h, Bool.eq_false_iff.mpr hq, rfl⟩
  · exact .inl rfl

/-- With no failed load there is nothing to settle. -/
theorem settleFailure_none {s : State} (h : s.failing = none) : settleFailure s = s := by
  unfold settleFailure
  rw [h]

/-- A property kept by the delivery of an answer and by entry to FAILED is kept by an answer taken. -/
theorem answerTaken_keeps (I : State → Prop) (s : State) (m : MemAnswer) (h : I s)
    (hd : ∀ e queue, s.transit.queue = e :: queue → I (deliver e m { s with transit := { s.transit with queue := queue } }))
    (hf : ∀ cause u, I u → u.failing = some cause → u.transit.queue.any isDraining = false → I (enterFailed cause u)) :
    I (answerTaken m s) := by
  unfold answerTaken
  split
  · exact h
  · rename_i e queue hq
    rcases settleFailure_cases (deliver e m { s with transit := { s.transit with queue := queue } }) with hs | ⟨c, h1, h2, hs⟩
    · rw [hs]; exact hd e queue hq
    · rw [hs]; exact hf c _ (hd e queue hq) h1 h2

end Sys2Proof.Machine
end

