-- ==== Sys2Proof/Laws/Records.lean ====
section
/-! SUPPORT. What a change of one slot or one mailbox leaves: the slot's record, the owner's counts, and every other
slot and mailbox; what a change of one shelf entry leaves; the numbers of lists. -/

namespace Sys2Proof.Machine

/-! ### Mailboxes and slots -/

theorem boxAt_congr {s u : State} (h : u.boxes = s.boxes) (i : Nat) : boxAt u i = boxAt s i := by
  unfold boxAt; rw [h]

theorem slotAt_congr {s u : State} (h : u.slots = s.slots) (i : Nat) : slotAt u i = slotAt s i := by
  unfold slotAt; rw [h]

theorem contextAt_congr {s u : State} (h : u.deposit = s.deposit) (i : Nat) : contextAt u i = contextAt s i := by
  unfold contextAt; rw [h]

theorem classOf_congr {s u : State} (hb : u.boxes = s.boxes) (hc : u.control = s.control) (m : Nat) :
    classOf u m = classOf s m := by
  unfold classOf classAt; rw [boxAt_congr hb, hc]

theorem broadcastAt_congr {s u : State} (h : u.broadcasts = s.broadcasts) (n : Nat) :
    broadcastAt u n = broadcastAt s n := by
  unfold broadcastAt; rw [h]

/-- A settled mailbox holds its record with flag and mode derived afresh; no other mailbox changes. -/
@[simp] theorem boxAt_settleBox (m i : Nat) (b : MailboxRec) (s : State) :
    boxAt (settleBox m b s) i = if i = m then derived s b else boxAt s i := by
  unfold settleBox
  split
  · simp
  · split
    · simp
    · rw [boxAt_congr (s := putBox m (derived s b) s) (by simp)]; simp

@[simp] theorem boxAt_updateBox (m i : Nat) (f : MailboxRec → MailboxRec) (s : State) :
    boxAt (updateBox m f s) i = if i = m then derived s (f (boxAt s m)) else boxAt s i := boxAt_settleBox _ _ _ _

@[simp] theorem slotAt_settleBox (m i : Nat) (b : MailboxRec) (s : State) :
    slotAt (settleBox m b s) i = slotAt s i := slotAt_congr (by simp) i

/-- A changed slot holds its new record; no other slot changes. -/
@[simp] theorem slotAt_changeSlot (n i : Nat) (r : SlotRec) (s : State) :
    slotAt (changeSlot n r s) i = if i = n then r else slotAt s i := by
  unfold changeSlot
  split <;> simp

theorem derived_congr {s u : State} (h : u.control = s.control) (b : MailboxRec) : derived u b = derived s b := by
  unfold derived classAt; rw [h]

/-- A changed slot leaves every mailbox but its owner's. -/
theorem boxAt_changeSlot_other (n i : Nat) (r : SlotRec) (s : State) (h : i ≠ r.owner) :
    boxAt (changeSlot n r s) i = boxAt s i := by
  unfold changeSlot
  split
  · exact boxAt_congr (by simp) i
  · rw [boxAt_settleBox, if_neg h]
    exact boxAt_congr (by simp) i

/-- The owner of a changed slot. -/
theorem boxAt_changeSlot_owner (n : Nat) (r : SlotRec) (s : State)
    (h : ¬ ((slotAt s n).state = .free ∧ r.state = .free)) :
    boxAt (changeSlot n r s) r.owner = derived s (ownerAfter s n (slotAt s n) r (boxAt s r.owner)) := by
  unfold changeSlot
  rw [if_neg h, boxAt_settleBox, if_pos rfl]
  exact derived_congr (by simp) _

@[simp] theorem derived_nonFree (s : State) (b : MailboxRec) : (derived s b).nonFree = b.nonFree := rfl
@[simp] theorem derived_status (s : State) (b : MailboxRec) : (derived s b).status = b.status := rfl
@[simp] theorem derived_unheard (s : State) (b : MailboxRec) : (derived s b).unheard = b.unheard := rfl
@[simp] theorem derived_urgentUnheard (s : State) (b : MailboxRec) : (derived s b).urgentUnheard = b.urgentUnheard := rfl
@[simp] theorem derived_unheardQueue (s : State) (b : MailboxRec) : (derived s b).unheardQueue = b.unheardQueue := rfl
@[simp] theorem derived_keptQueue (s : State) (b : MailboxRec) : (derived s b).keptQueue = b.keptQueue := rfl
@[simp] theorem derived_lampShelf (s : State) (b : MailboxRec) : (derived s b).lampShelf = b.lampShelf := rfl
@[simp] theorem derived_lampNumber (s : State) (b : MailboxRec) : (derived s b).lampNumber = b.lampNumber := rfl
@[simp] theorem derived_cls (s : State) (b : MailboxRec) : (derived s b).cls = b.cls := rfl

/-- The owner's non-FREE count after a slot's change. -/
@[simp] theorem ownerAfter_nonFree (s : State) (n : Nat) (old r : SlotRec) (b : MailboxRec) :
    (ownerAfter s n old r b).nonFree = b.nonFree - oneIf (old.state != .free) + oneIf (r.state != .free) := rfl

/-! ### Contexts -/

theorem contextAt_lt {s : State} {k : Nat} {c : Context} (h : contextAt s k = some c) : k < 48 := by
  unfold contextAt at h
  by_cases hk : k < 48
  · exact hk
  · rw [Vector.getElem?_eq_none (by omega)] at h
    cases h

@[simp] theorem slotAt_releaseSlot (r : SlotRec) (s : State) (n : Nat) : slotAt (releaseSlot r s) n = slotAt s n := by
  unfold releaseSlot; split <;> rfl

/-! ### Shelves -/

/-- A changed shelf entry holds its new record; no other entry changes. -/
theorem shelfAt_updateShelf (e i : Nat) (f : Shelf → Shelf) (s : State) :
    shelfAt (updateShelf e f s) i = if i = e ∧ e < 192 then f (shelfAt s e) else shelfAt s i := by
  show shelfOf (putShelf e (f (shelfAt s e)) s.lamps) i = _
  unfold putShelf
  by_cases he : e < 192
  · rw [if_pos he]
    have h : ∀ (k : Link) (x : LinkState) (l : Lamps), shelfOf (putLinkState k x l) i = shelfOf l i := by
      intro k x l; cases k <;> rfl
    rw [h]
    unfold shelfOf
    rw [cell_set]
    rfl
  · rw [if_neg he, if_neg (fun h => he h.2)]
    rfl

/-- A changed shelf entry changes no link but in its dirty set. -/
theorem linkState_updateShelf (e : Nat) (k : Link) (f : Shelf → Shelf) (s : State) :
    linkState (updateShelf e f s).lamps k = { linkState s.lamps k with dirty := (linkState (updateShelf e f s).lamps k).dirty } := by
  show linkState (putShelf e (f (shelfAt s e)) s.lamps) k = { linkState s.lamps k with dirty := (linkState (putShelf e (f (shelfAt s e)) s.lamps) k).dirty }
  unfold putShelf
  split
  · cases k <;> cases linkOf e <;> rfl
  · rfl

theorem shelfAt_setActivity (k : Link) (a : Activity) (s : State) (e : Nat) :
    shelfOf (putLinkState k { linkState s.lamps k with activity := a } s.lamps) e = shelfAt s e := by
  cases k <;> rfl

/-! ### Lists -/

/-- The lowest number of a table whose cell passes a test. -/
theorem lowest_eq_some {α : Type} {p : α → Bool} {xs : List α} {k : Nat} :
    lowest p xs = some k ↔ (∃ x, xs[k]? = some x ∧ p x = true) ∧ ∀ i x, i < k → xs[i]? = some x → p x = false := by
  induction xs generalizing k with
  | nil => simp [lowest]
  | cons y ys ih =>
      unfold lowest
      by_cases h : p y = true
      · rw [if_pos h]
        constructor
        · intro hk
          cases hk
          exact ⟨⟨y, rfl, h⟩, fun i x hi => absurd hi (Nat.not_lt_zero i)⟩
        · rintro ⟨⟨x, hx, hp⟩, hlow⟩
          cases k with
          | zero => rfl
          | succ k => rw [hlow 0 y (Nat.succ_pos k) rfl] at h; cases h
      · rw [if_neg h]
        cases k with
        | zero =>
            constructor
            · intro hk
              cases hl : lowest p ys <;> rw [hl] at hk <;> cases hk
            · rintro ⟨⟨x, hx, hp⟩, _⟩
              cases hx
              exact absurd hp h
        | succ k =>
            rw [show (Option.map (· + 1) (lowest p ys) = some (k + 1)) ↔ lowest p ys = some k by
              cases lowest p ys <;> simp, ih]
            constructor
            · rintro ⟨⟨x, hx, hp⟩, hlow⟩
              refine ⟨⟨x, hx, hp⟩, ?_⟩
              intro i z hi hz
              cases i with
              | zero => cases hz; simpa using h
              | succ i => exact hlow i z (by omega) hz
            · rintro ⟨⟨x, hx, hp⟩, hlow⟩
              exact ⟨⟨x, hx, hp⟩, fun i z hi hz => hlow (i + 1) z (by omega) hz⟩

/-- No cell of a table passes a test. -/
theorem lowest_eq_none {α : Type} {p : α → Bool} {xs : List α} :
    lowest p xs = none ↔ ∀ x ∈ xs, p x = false := by
  induction xs with
  | nil => simp [lowest]
  | cons y ys ih =>
      unfold lowest
      by_cases h : p y = true
      · simp [h]
      · simp [h, ih]

end Sys2Proof.Machine
end

