-- ==== Sys2Proof/Laws/Images.lean ====
section
/-! SUPPORT. What a change of a shelf entry, of a mailbox's derived fields or of a slot does to the lamps' half, said once
for each (R131, R132, R136). -/

namespace Sys2Proof.Machine

/-! ### One shelf entry -/

/-- A write of an entry changes of the links their dirty sets alone. -/
theorem putShelf_links (e : Nat) (sh : Shelf) (l : Lamps) (k : Link) :
    { linkState (putShelf e sh l) k with dirty := [] } = { linkState l k with dirty := [] } := by
  unfold putShelf
  split
  · cases hk : linkOf e <;> cases k <;> rfl
  · rfl

theorem putShelf_cadence (e : Nat) (sh : Shelf) (l : Lamps) :
    (putShelf e sh l).phase = l.phase ∧ (putShelf e sh l).cycles = l.cycles := by
  unfold putShelf
  split
  · cases linkOf e <;> exact ⟨rfl, rfl⟩
  · exact ⟨rfl, rfl⟩

/-- A change of one entry leaves the others, the cadence, and the links but for their dirty sets. -/
theorem updateShelf_only (e : Nat) (f : Shelf → Shelf) (s : State) :
    updateShelf e f s = { s with lamps := (updateShelf e f s).lamps } ∧ OnlyShelfChanges e s (updateShelf e f s) :=
  ⟨rfl, fun i hi => by rw [shelfAt_updateShelf, if_neg fun h => hi h.1], (putShelf_cadence _ _ _).1, (putShelf_cadence _ _ _).2, putShelf_links _ _ _⟩

/-! ### What follows the mailboxes' modes -/

theorem OnlyImagesChange.refl (s : State) : OnlyImagesChange s s := ⟨fun _ => ⟨_, _, rfl⟩, rfl, rfl, fun _ => rfl⟩

theorem OnlyImagesChange.trans {s u v : State} (h : OnlyImagesChange s u) (h' : OnlyImagesChange u v) :
    OnlyImagesChange s v := by
  refine ⟨fun e => ?_, h'.2.1.trans h.2.1, h'.2.2.1.trans h.2.2.1, fun k => (h'.2.2.2 k).trans (h.2.2.2 k)⟩
  obtain ⟨m, c, hm⟩ := h.1 e
  obtain ⟨m', c', hm'⟩ := h'.1 e
  exact ⟨m', c', by rw [hm', hm]⟩

/-- A change outside the lamps' half. -/
theorem OnlyImagesChange.of_lamps {s u : State} (h : u.lamps = s.lamps) : OnlyImagesChange s u := by
  unfold OnlyImagesChange shelfAt
  rw [h]
  exact ⟨fun _ => ⟨_, _, rfl⟩, rfl, rfl, fun _ => rfl⟩

/-- A mode passed to the Lamp Composer (R132). -/
theorem OnlyImagesChange.mapLamp (p : Nat) (mode : Option LampMode) (s : State) :
    OnlyImagesChange s (mapLamp p mode s) := by
  refine ⟨fun e => ?_, (putShelf_cadence _ _ _).1, (putShelf_cadence _ _ _).2, putShelf_links _ _ _⟩
  unfold Machine.mapLamp
  rw [shelfAt_updateShelf]
  split
  · rename_i h
    rw [h.1]
    exact ⟨_, _, rfl⟩
  · exact ⟨_, _, rfl⟩

/-- A mailbox takes a new record, its flag and mode derived afresh. -/
theorem OnlyImagesChange.settleBox (m : Nat) (b : MailboxRec) (s : State) : OnlyImagesChange s (settleBox m b s) := by
  unfold Machine.settleBox
  split
  · exact .of_lamps rfl
  · split
    · exact .of_lamps rfl
    · exact .trans (.of_lamps rfl) (.mapLamp _ _ (putBox m (derived s b) s))

theorem OnlyImagesChange.updateBox (m : Nat) (f : MailboxRec → MailboxRec) (s : State) :
    OnlyImagesChange s (updateBox m f s) := .settleBox _ _ _

theorem OnlyImagesChange.changeSlot (n : Nat) (r : SlotRec) (s : State) : OnlyImagesChange s (changeSlot n r s) := by
  unfold Machine.changeSlot
  split
  · exact .of_lamps rfl
  · exact .trans (.of_lamps rfl) (.settleBox _ _ (putSlot n r s))

theorem OnlyImagesChange.forEach (f : Nat → State → State) (hf : ∀ n s, OnlyImagesChange s (f n s)) (l : List Nat) :
    ∀ s, OnlyImagesChange s (forEach f l s) := by
  induction l with
  | nil => intro s; exact .refl s
  | cons n l ih => intro s; exact .trans (hf n s) (ih (f n s))

/-- A position given up (R35). -/
theorem OnlyImagesChange.freePosition (p : Option Nat) (s : State) : OnlyImagesChange s (freePosition p s) := by
  unfold Machine.freePosition
  split
  · rename_i p
    exact .trans (.of_lamps rfl) (.mapLamp p none (putHolder p none s))
  · exact .refl s

/-- A change of lamp field (R35). -/
theorem OnlyImagesChange.changeLamp (m v : Nat) (s : State) : OnlyImagesChange s (changeLamp m v s) := by
  unfold Machine.changeLamp takePosition
  dsimp only
  split
  · exact .trans (.freePosition _ s) (.trans (.of_lamps rfl) (.mapLamp _ _ _))
  · exact .trans (.freePosition _ s) (.of_lamps rfl)

/-- A broadcast ends (R79). -/
theorem OnlyImagesChange.endBroadcast (n : Nat) (reason : EndReason) (mailbox : Option Nat) (s : State) :
    OnlyImagesChange s (endBroadcast n reason mailbox s) := by
  unfold Machine.endBroadcast
  exact .trans (.forEach (fun m => Machine.updateBox m (uncountBroadcast (broadcastAt s n).urgent))
    (fun m s => .updateBox m _ s) (broadcastAt s n).pending s) (.of_lamps (by simp))

/-- A mailbox leaves a pending set (R78). -/
theorem OnlyImagesChange.leaveBroadcast (n m : Nat) (s : State) : OnlyImagesChange s (leaveBroadcast n m s) := by
  unfold Machine.leaveBroadcast
  dsimp only
  split
  · have h := OnlyImagesChange.trans (.of_lamps rfl) (.updateBox m (uncountBroadcast (broadcastAt s n).urgent)
      (putBroadcast n { broadcastAt s n with pending := (broadcastAt s n).pending.filter (· != m) } s))
    split
    · exact .trans h (.endBroadcast _ _ _ _)
    · exact h
  · exact .refl s

/-! ### What follows a slot -/

/-- A record derived afresh stands as it would be derived once more. -/
theorem afresh_derived (s : State) (b : MailboxRec) : afresh s (derived s b) = derived s b := rfl

/-- Only the mailboxes and the classes count for what follows a slot. -/
theorem OnlyCountsFollow.congr {m : Nat} {s u s' u' : State} (h : OnlyCountsFollow m s u) (hs : s'.boxes = s.boxes)
    (hu : u'.boxes = u.boxes) (hc : u'.control = u.control) : OnlyCountsFollow m s' u' := by
  unfold OnlyCountsFollow at h ⊢
  rw [boxAt_congr hs, boxAt_congr hu, show afresh u' = afresh u by funext b; unfold afresh classAt; rw [hc]]
  exact h

theorem OnlyImagesChange.congr {s u s' u' : State} (h : OnlyImagesChange s u) (hs : s'.lamps = s.lamps)
    (hu : u'.lamps = u.lamps) : OnlyImagesChange s' u' :=
  .trans (.of_lamps hs.symm) (.trans h (.of_lamps hu))

/-- A slot's change leaves its owner's record but for what the slots, capacity and class give it. -/
theorem OnlyCountsFollow.changeSlot (n : Nat) (r : SlotRec) (s : State)
    (h : ¬ ((slotAt s n).state = .free ∧ r.state = .free)) : OnlyCountsFollow r.owner s (changeSlot n r s) := by
  unfold OnlyCountsFollow
  rw [boxAt_changeSlot_owner n r s h]
  constructor
  · simp only [plainFields, derived, ownerAfter, countIn, countOut]
  · rw [show afresh (Machine.changeSlot n r s) = afresh s by funext b; unfold afresh classAt; simp only [changeSlot_keeps],
      afresh_derived]

end Sys2Proof.Machine
end

