-- ==== Sys2Proof/Machine/MemorySide.lean ====
section
/-! DEFINITION. Message memory as the memory link sees it (section 9.1, log 8): an agent outside the part. A WRITE's byte
whose enable is clear keeps its old value; a READ returns the bytes. The part's own state holds no memory. -/

namespace Sys2Proof.Machine

/-- Message memory's bytes; `initial` is what an address never written holds. -/
abbrev MessageMemory := Sparse Byte

/-- A byte of memory. -/
def memoryByte (initial : Byte) (m : MessageMemory) (addr : Nat) : Byte := sparseGet initial m addr

/-- Lanes written from an address on: only enabled bytes change (section 9.1). -/
def writeMemory (initial : Byte) : Nat → List Lane → MessageMemory → MessageMemory
  | _, [], m => m
  | addr, l :: ls, m =>
      writeMemory initial (addr + 1) ls (if l.enabled then sparseSet initial m addr l.data else m)

/-- Bytes read from an address on. -/
def readMemory (initial : Byte) (m : MessageMemory) (addr count : Nat) : List Byte :=
  (List.range count).map fun k => memoryByte initial m (addr + k)

/-- Memory after an entry answered DONE. -/
def memoryAfter (initial : Byte) (m : MessageMemory) (e : Entry) : MessageMemory :=
  match e.kind with
  | .read => m
  | .write => writeMemory initial e.addr e.lanes m

/-- The DONE answer to an entry. -/
def memoryDone (initial : Byte) (m : MessageMemory) (e : Entry) : MemAnswer :=
  ⟨false, match e.kind with | .read => readMemory initial m e.addr (8 * e.words) | .write => []⟩

end Sys2Proof.Machine
end

