-- ==== Sys2Proof/Laws/MemorySide.lean ====
section
/-! SUPPORT. Message memory: a write keeps the canonical form, and changes enabled bytes alone. -/

namespace Sys2Proof.Machine

/-- Writing lanes keeps the canonical form. -/
theorem writeMemory_wf (initial : Byte) : ∀ (ls : List Lane) (addr : Nat) (m : MessageMemory),
    sparseWf initial m = true → sparseWf initial (writeMemory initial addr ls m) = true
  | [], _, _, h => h
  | l :: ls, addr, m, h => by
      unfold writeMemory
      refine writeMemory_wf initial ls (addr + 1) _ ?_
      split
      · exact sparseWf_set h _ _
      · exact h

/-- A byte of memory after lanes are written from an address on: the lane's data where one is enabled there, else as
before. -/
theorem memoryByte_writeMemory (initial : Byte) : ∀ (ls : List Lane) (addr : Nat) (m : MessageMemory) (a : Nat),
    memoryByte initial (writeMemory initial addr ls m) a =
      if a < addr then memoryByte initial m a
      else match ls[a - addr]? with
        | some l => if l.enabled then l.data else memoryByte initial m a
        | none => memoryByte initial m a
  | [], addr, m, a => by simp [writeMemory]
  | l :: ls, addr, m, a => by
      unfold writeMemory
      rw [memoryByte_writeMemory initial ls (addr + 1) _ a]
      have put : memoryByte initial (if l.enabled then sparseSet initial m addr l.data else m) a
          = if l.enabled = true ∧ a = addr then l.data else memoryByte initial m a := by
        unfold memoryByte
        by_cases he : l.enabled <;> simp [he, sparseGet_set]
      rw [put]
      by_cases h1 : a < addr
      · have h2 : a < addr + 1 := by omega
        have h3 : a ≠ addr := by omega
        simp [h1, h2, h3]
      · by_cases h2 : a = addr
        · subst h2
          simp
        · have h3 : ¬ a < addr + 1 := by omega
          have h4 : a - addr = (a - (addr + 1)) + 1 := by omega
          simp [h1, h2, h3, h4]

end Sys2Proof.Machine
end

