-- ==== Sys2Proof/Laws/Port.lean ====
section
/-! SUPPORT. The upstream port: when it can take a transaction at once, what arriving does, and what a region makes of
it. -/

namespace Sys2Proof.Machine

/-! ### What requests and classification read -/

theorem areaOffset_congr {s u : State} (h : u.transit.ctlSel = s.transit.ctlSel) (a : Nat) :
    areaOffset u a = areaOffset s a := by
  unfold areaOffset controlBase
  rw [h]

theorem regionOf_congr {s u : State} (h : u.transit.regions = s.transit.regions) (a : Nat) :
    regionOf u a = regionOf s a := by
  unfold regionOf
  rw [h]

theorem roomAsked_congr {s u : State} (hp : u.part = s.part) (hc : u.transit.ctlSel = s.transit.ctlSel)
    (hr : u.transit.regions = s.transit.regions) (t : HostTxn) : roomAsked u t = roomAsked s t := by
  unfold roomAsked
  rw [hp, areaOffset_congr hc, regionOf_congr hr]

theorem request_setTurn (q r : Requester) (s : State) : request (setTurn r s) q = request s q := by
  cases q <;> rfl

theorem isGranted_passTurn_turn {q : Requester} {s : State} (h : isGranted q (passTurn s) = true) :
    (passTurn s).transit.turn = q := by
  simp [isGranted] at h
  exact h.1

/-- A granted request's room is free. -/
theorem isGranted_room {q : Requester} {s : State} (h : isGranted q (passTurn s) = true) :
    ∃ n, request s q = some n ∧ n ≤ freeRoom s := by
  simp only [isGranted, Bool.and_eq_true] at h
  have h2 := h.2
  unfold passTurn at h2
  rw [request_setTurn] at h2
  split at h2
  · rename_i n hn
    exact ⟨n, hn, of_decide_eq_true h2⟩
  · simp at h2

theorem grantTo_granted {q : Requester} {s : State} (go : State → State) (h : isGranted q (passTurn s) = true) :
    grantTo q go s = go (setTurn (nextRequester q) (passTurn s)) := by simp [grantTo, h]

theorem grantTo_waits {q : Requester} {s : State} (go : State → State) (h : isGranted q (passTurn s) = false) :
    grantTo q go s = s := by simp [grantTo, h]

/-! ### The state a transaction is taken in -/

@[simp] theorem accepted_keeps (t : HostTxn) (s : State) :
    (accepted t s).pending = s.pending ∧ (accepted t s).part = s.part ∧ (accepted t s).prun = s.prun ∧
    (accepted t s).straps = s.straps ∧ (accepted t s).now = s.now ∧ (accepted t s).slots = s.slots ∧
    (accepted t s).boxes = s.boxes ∧ (accepted t s).lampMap = s.lampMap ∧ (accepted t s).deposit = s.deposit ∧
    (accepted t s).broadcasts = s.broadcasts ∧ (accepted t s).calendar = s.calendar ∧
    (accepted t s).sweep = s.sweep ∧ (accepted t s).greetings = s.greetings ∧
    (accepted t s).control = s.control ∧ (accepted t s).reports = s.reports ∧ (accepted t s).counts = s.counts ∧
    (accepted t s).restartTag = s.restartTag ∧ (accepted t s).loader = s.loader ∧
    (accepted t s).failing = s.failing ∧
    (accepted t s).transit.ctlSel = s.transit.ctlSel ∧ (accepted t s).transit.regions = s.transit.regions ∧
    (accepted t s).transit.queue = s.transit.queue ∧ (accepted t s).transit.joined = s.transit.joined ∧
    (accepted t s).transit.arrivals = [] := by
  unfold accepted
  dsimp only
  split <;> simp

theorem FallsIn.accepted {k : RegionKind} {base : Nat} {t : HostTxn} {s : State} (h : FallsIn k base t s) :
    FallsIn k base t (accepted t s) := by
  obtain ⟨h1, h2, h3, z, h4⟩ := h
  exact ⟨by simp [h1], h2, (areaOffset_congr (s := s) (by simp) _).trans h3, z, (regionOf_congr (s := s) (by simp) _).trans h4⟩

theorem FallsInArea.accepted {o : Nat} {t : HostTxn} {s : State} (h : FallsInArea o t s) :
    FallsInArea o t (accepted t s) := by
  obtain ⟨h1, h2, h3⟩ := h
  exact ⟨by simp [h1], h2, (areaOffset_congr (s := s) (by simp) _).trans h3⟩

/-! ### Arrival -/

theorem chooseLink_shape (k : Link) (s : State) : chooseLink k s = { s with lamps := (chooseLink k s).lamps } := by
  unfold chooseLink chooseFrame
  (repeat' split) <;> rfl

/-- The links' choice changes the lamps' half alone. -/
theorem chooseLinks_shape (s : State) : chooseLinks s = { s with lamps := (chooseLinks s).lamps } := by
  unfold chooseLinks
  rw [chooseLink_shape .b, chooseLink_shape .a]

theorem returnResponses_length (order : List (Option Response)) (done : List Response) :
    (returnResponses order done).1.length ≤ order.length := by
  induction order generalizing done with
  | nil => simp [returnResponses]
  | cons x order ih =>
      cases x with
      | none => simp [returnResponses]
      | some r =>
          have := ih (done ++ [r])
          simp only [returnResponses, List.length_cons]
          omega

theorem seekTurn_upstream {s : State} {n : Nat} (hn : request s .upstream = some n)
    (h : s.transit.turn = .upstream ∨ ∀ q, q ≠ .upstream → request s q = none) :
    seekTurn s 5 s.transit.turn = some .upstream := by
  rcases h with h | h
  · simp [h, seekTurn, hn]
  · have h1 := h .deposit (by decide)
    have h2 := h .sweep (by decide)
    have h3 := h .control (by decide)
    have h4 := h .loader (by decide)
    cases ht : s.transit.turn <;> simp [seekTurn, hn, h1, h2, h3, h4, nextRequester]

/-- The state a transaction arrives in, as the part comes to rest. -/
def arrived (t : HostTxn) (s : State) : State := { s with transit := { s.transit with arrivals := [t] } }

theorem request_rest {t : HostTxn} {s : State} {q : Requester} (hq : q ≠ .upstream) :
    request (returned (chooseLinks (arrived t s))) q = request s q := by
  rw [chooseLinks_shape]
  cases q
  · exact absurd rfl hq
  all_goals rfl

theorem arrives_acceptable {t : HostTxn} {s : State} (h : PortReady t s) :
    acceptable (calm (arrived t s)) = true := by
  obtain ⟨_, hl, ho, hr⟩ := h
  have hlen := returnResponses_length s.transit.order s.transit.returned
  have hopen : portOpen (calm (arrived t s)) = true := by
    have ho' : s.transit.order.length < 64 := ho
    simp only [portOpen, Bool.and_eq_true]
    refine ⟨by simpa [arrived] using hl, ?_⟩
    simp only [calm, passTurn, setTurn_transit_order, returned_transit_order, Config.orderPlaces]
    simp [arrived]
    omega
  have hroom : roomAsked (calm (arrived t s)) t = roomAsked s t :=
    roomAsked_congr (by simp [arrived]) (by simp [arrived]) (by simp [arrived]) t
  have harr : (calm (arrived t s)).transit.arrivals = [t] := by simp [arrived]
  simp only [acceptable, harr, hopen, hroom, Bool.true_and, Bool.or_eq_true, Option.isNone_iff_eq_none]
  cases hn : roomAsked s t with
  | none => exact Or.inl rfl
  | some n =>
      right
      obtain ⟨hfit, hturn⟩ := hr n hn
      have hopen' : portOpen (returned (chooseLinks (arrived t s))) = true := by
        have : portOpen (calm (arrived t s)) = portOpen (returned (chooseLinks (arrived t s))) := by
          simp [portOpen, calm, passTurn]
        rw [← this]; exact hopen
      have hup : request (returned (chooseLinks (arrived t s))) .upstream = some n := by
        have hroom' : roomAsked (returned (chooseLinks (arrived t s))) t = roomAsked s t :=
          roomAsked_congr (by simp [arrived]) (by simp [arrived]) (by simp [arrived]) t
        have ha : (returned (chooseLinks (arrived t s))).transit.arrivals = [t] := by simp [arrived]
        unfold request
        rw [ha]
        simp only [hopen', if_true, hroom', hn]
      have hseek := seekTurn_upstream hup (by
        rcases hturn with hturn | hturn
        · left; simpa [arrived] using hturn
        · right; intro q hq; rw [request_rest hq]; exact hturn q hq)
      have hrest : calm (arrived t s) = setTurn .upstream (returned (chooseLinks (arrived t s))) := by
        simp only [calm, passTurn, hseek, Option.getD_some, ite_self]
      simp only [isGranted, hrest, request_setTurn, hup, setTurn_transit_turn]
      simpa [freeRoom, arrived] using hfit

/-- A transaction that the port can take at once is taken in the state `accepted`, and the part comes to rest. -/
theorem hostArrives_ready {t : HostTxn} {s : State} (h : PortReady t s) :
    hostArrives t s = calm (takeTxn t (accepted t s)) := by
  have hacc := arrives_acceptable h
  obtain ⟨harr, -⟩ := h
  have h0 : ({ s with transit := { s.transit with arrivals := s.transit.arrivals ++ [t] } } : State) = arrived t s := by
    simp [arrived, harr]
  have ha : (calm (arrived t s)).transit.arrivals = [t] := by simp [arrived]
  have hroom : roomAsked (calm (arrived t s)) t = roomAsked s t :=
    roomAsked_congr (by simp [arrived]) (by simp [arrived]) (by simp [arrived]) t
  have hacc2 : accepted t s =
      if (roomAsked s t).isSome then
        setTurn .deposit { calm (arrived t s) with transit := { (calm (arrived t s)).transit with arrivals := [] } }
      else { calm (arrived t s) with transit := { (calm (arrived t s)).transit with arrivals := [] } } := rfl
  unfold hostArrives
  rw [h0]
  simp only [settle, ha, List.length_singleton, serve, hacc, if_true, acceptHead, hroom, nextRequester]
  rw [hacc2]

/-! ### What a region makes of a transaction -/

theorem takeTxn_running {t : HostTxn} {s : State} (h1 : s.part = .running) (h2 : txnFault t = none) :
    takeTxn t s = takeRunning t s := by
  unfold takeTxn
  split
  · rename_i h
    rw [h2] at h
    cases h
  · simp only [h1]

theorem takeTxn_write {k : RegionKind} {base : Nat} {w : HostWrite} {s : State} (h : FallsIn k base (.write w) s) :
    ∃ size, takeTxn (.write w) s = writeRegion ⟨k, base, size⟩ w s := by
  obtain ⟨h1, h2, h3, z, h4⟩ := h
  refine ⟨z, ?_⟩
  rw [takeTxn_running h1 h2]
  unfold takeRunning
  simp only [h3, h4, takeRegion]

theorem takeTxn_read {k : RegionKind} {base : Nat} {r : HostRead} {s : State} (h : FallsIn k base (.read r) s) :
    ∃ size, takeTxn (.read r) s = readRegion ⟨k, base, size⟩ r s := by
  obtain ⟨h1, h2, h3, z, h4⟩ := h
  refine ⟨z, ?_⟩
  rw [takeTxn_running h1 h2]
  unfold takeRunning
  simp only [h3, h4, takeRegion]

theorem takeTxn_areaWrite {o : Nat} {w : HostWrite} {s : State} (h : FallsInArea o (.write w) s) :
    takeTxn (.write w) s = writeArea o w s := by
  obtain ⟨h1, h2, h3⟩ := h
  rw [takeTxn_running h1 h2]
  unfold takeRunning
  simp only [h3, takeArea]

theorem takeTxn_areaRead {o : Nat} {r : HostRead} {s : State} (h : FallsInArea o (.read r) s) :
    takeTxn (.read r) s = readArea o r s := by
  obtain ⟨h1, h2, h3⟩ := h
  rw [takeTxn_running h1 h2]
  unfold takeRunning
  simp only [h3, takeArea]

/-- A well-formed transaction while RUNNING that lies in neither the Control Area nor a used region is PLAIN (R170). -/
theorem takeTxn_plain {t : HostTxn} {s : State} (h1 : s.part = .running) (h2 : txnFault t = none)
    (h3 : areaOffset s (txnAddr t) = none) (h4 : regionOf s (txnAddr t) = none) :
    takeTxn t s = forwardPlain t s := by
  rw [takeTxn_running h1 h2]
  unfold takeRunning
  simp only [h3, h4]

/-! ### The judgement of Control Area records reads only what a transaction's taking leaves -/

theorem judgeRecord_congr {s u : State} (hr : u.reports = s.reports) (hg : u.transit.regions = s.transit.regions)
    (hb : u.broadcasts = s.broadcasts) (line : List Lane) (a : AreaRecord) :
    judgeRecord u line a = judgeRecord s line a := by
  unfold judgeRecord checkRecord broadcastAt
  rw [hr, hg, hb]

theorem failedRecords_congr {s u : State} (hr : u.reports = s.reports) (hg : u.transit.regions = s.transit.regions)
    (hb : u.broadcasts = s.broadcasts) (line : List Lane) (as : List AreaRecord) :
    failedRecords u line as = failedRecords s line as := by
  simp [failedRecords, judgeRecord_congr hr hg hb]

theorem failedRecords_accepted (t : HostTxn) (s : State) (line : List Lane) (as : List AreaRecord) :
    failedRecords (accepted t s) line as = failedRecords s line as :=
  failedRecords_congr (by simp) (by simp) (by simp) line as

end Sys2Proof.Machine
end

