-- ==== Sys2Proof/Laws/Steps.lean ====
section
/-! SUPPORT. Everything a step can do, said once: a property that each part of a step keeps is kept by every command and
by every step. -/

namespace Sys2Proof.Machine

/-- The port may take the head of arrivals: the part is not LOADING, the response order has a place, and the room asked
is free (R174 to R176, R180). -/
def CanTake (t : HostTxn) (s : State) : Prop :=
  s.part ≠ .loading ∧ s.transit.order.length < Config.orderPlaces ∧ ∀ n, roomAsked s t = some n → n ≤ freeRoom s

/-- A request of a requester is waiting and the free room covers it. -/
def HasRoom (q : Requester) (s : State) : Prop := ∃ n, request s q = some n ∧ n ≤ freeRoom s

/-- A property kept by each part of a step. -/
structure StepParts (I : State → Prop) : Prop where
  pending : ∀ s q, I s → I { s with pending := q }
  straps : ∀ s x, I s → I { s with straps := x }
  edge : ∀ s, I s → I (clockEdge s)
  arrivals : ∀ s a, I s → I { s with transit := { s.transit with arrivals := a } }
  turn : ∀ s q, I s → I (setTurn q s)
  responses : ∀ s, I s → I (returned s)
  links : ∀ s k, I s → I (chooseLink k s)
  txn : ∀ s t, I s → CanTake t s → I (takeTxn t s)
  answer : ∀ s m, I s → I (answerTaken m s)
  lapse : ∀ s k, I s → s.part = .running → I (lapseContext k s)
  claim : ∀ s, I s → HasRoom .deposit s → I (takeClaim s)
  visit : ∀ s, I s → HasRoom .sweep s → I (sweepVisit s)
  ending : ∀ s, I s → s.part = .running → I (endSweep s)
  reporting : ∀ s, I s → I (reportSweep s)
  report : ∀ s, I s → HasRoom .control s → I (writeReport s)
  load : ∀ s, I s → HasRoom .loader s → I (placeLoaded s)
  calendar : ∀ s, I s → I (calendarAdvance s)
  latch : ∀ s k, I s → I (expireLatch k s)
  tick : ∀ s, I s → I (cadenceTicks s)
  probe : ∀ s e, I s → I (probeReached e s)
  frame : ∀ s k, I s → I (frameEnded k s)
  firstWord : ∀ s k, I s → I (replyBegins k s)
  reply : ∀ s k ws, I s → I (replyTaken k ws s)
  timeout : ∀ s k, I s → I (replyExpired k s)
  resetOn : ∀ s, I s → I (assertReset s)
  resetOff : ∀ s x, I s → I (releaseReset x s)
  loaded : ∀ s, I s → I (finishLoad s)
  prun : ∀ s h, I s → I (setPrun h s)

section
variable {I : State → Prop} (h : StepParts I)
include h

theorem StepParts.passTurn {s : State} (hs : I s) : I (passTurn s) := h.turn _ _ hs

theorem StepParts.chooseLinks {s : State} (hs : I s) : I (chooseLinks s) := h.links _ _ (h.links _ _ hs)

theorem StepParts.calm {s : State} (hs : I s) : I (calm s) := h.passTurn (h.responses _ (h.chooseLinks hs))

theorem StepParts.acceptHead {s : State} (hs : I s) (ha : acceptable s = true) : I (acceptHead s) := by
  unfold Machine.acceptHead
  unfold acceptable at ha
  split
  · exact hs
  · rename_i t rest harr
    rw [harr] at ha
    simp only [Bool.and_eq_true, portOpen, bne_iff_ne, ne_eq, decide_eq_true_eq, Bool.or_eq_true,
      Option.isNone_iff_eq_none] at ha
    obtain ⟨⟨hl, ho⟩, hroom⟩ := ha
    have hopen : portOpen s = true := by simp [portOpen, hl, ho]
    have hreq : request s .upstream = roomAsked s t := by
      unfold request
      rw [harr]
      simp only [hopen, if_true]
    have harr' := h.arrivals s rest hs
    have key : ∀ u : State, u.part = s.part → u.transit.ctlSel = s.transit.ctlSel →
        u.transit.regions = s.transit.regions → u.transit.order = s.transit.order →
        u.transit.queue = s.transit.queue → CanTake t u := by
      intro u h1 h2 h3 h4 h5
      refine ⟨by rw [h1]; exact hl, by rw [h4]; exact ho, ?_⟩
      intro n hn
      rw [roomAsked_congr h1 h2 h3] at hn
      rcases hroom with hroom | hroom
      · rw [hroom] at hn; cases hn
      · simp only [isGranted, hreq, hn, Bool.and_eq_true] at hroom
        have := of_decide_eq_true hroom.2
        simpa [freeRoom, h5] using this
    dsimp only
    split
    · exact h.txn _ _ (h.turn _ _ harr') (key _ rfl rfl rfl rfl rfl)
    · exact h.txn _ _ harr' (key _ rfl rfl rfl rfl rfl)

theorem StepParts.serve (n : Nat) : ∀ {s : State}, I s → I (serve n s) := by
  induction n with
  | zero => intro s hs; exact hs
  | succ n ih =>
      intro s hs
      unfold Machine.serve
      split
      · rename_i ha
        exact ih (h.calm (h.acceptHead hs ha))
      · exact hs

theorem StepParts.settle {s : State} (hs : I s) : I (settle s) := h.serve _ (h.calm hs)

theorem StepParts.hostArrives (t : HostTxn) {s : State} (hs : I s) : I (hostArrives t s) :=
  h.settle (h.arrivals _ _ hs)

omit h in
theorem hasRoom_of_granted {q : Requester} {s : State} (hg : isGranted q (Machine.passTurn s) = true) (r : Requester) :
    HasRoom q (setTurn r (Machine.passTurn s)) := by
  obtain ⟨n, hn, hf⟩ := isGranted_room hg
  refine ⟨n, ?_, by simpa [freeRoom, Machine.passTurn] using hf⟩
  rw [request_setTurn]
  unfold Machine.passTurn
  rw [request_setTurn]
  exact hn

theorem StepParts.grantTo (q : Requester) (go : State → State) (hgo : ∀ s, I s → HasRoom q s → I (go s)) {s : State}
    (hs : I s) : I (grantTo q go s) := by
  unfold Machine.grantTo
  split
  · rename_i hg
    exact hgo _ (h.turn _ _ (h.passTurn hs)) (hasRoom_of_granted hg _)
  · exact hs

theorem StepParts.sweepStep {s : State} (hs : I s) : I (sweepStep s) := by
  unfold Machine.sweepStep
  split
  · exact h.grantTo .sweep sweepVisit h.visit hs
  · rename_i hp _ _
    exact h.ending _ hs hp
  · exact h.reporting _ hs
  · exact hs

/-- A property that each part of a step keeps is kept by every command. -/
theorem exec_keeps {c : Instr} {s t : State} (hs : I s) (he : exec c s = .next t) : I t := by
  cases c
  case restart w x =>
    cases he
    exact h.hostArrives _ (h.straps _ x hs)
  case memoryAnswer m => cases he; exact h.settle (h.answer _ _ hs)
  case depositIdleExpiry k =>
    cases he
    refine h.settle ?_
    split
    · rename_i hp; exact h.lapse _ _ hs hp
    · exact hs
  case timeoutClaim => cases he; exact h.settle (h.grantTo _ _ h.claim hs)
  case sweepVisit => cases he; exact h.settle (h.sweepStep hs)
  case reportWrite => cases he; exact h.settle (h.grantTo _ _ h.report hs)
  case loaderRoomGrant => cases he; exact h.settle (h.grantTo _ _ h.load hs)
  case calendarAdvance => cases he; exact h.settle (h.calendar _ hs)
  case latchIdleExpiry k => cases he; exact h.settle (h.latch _ _ hs)
  case cadenceTick => cases he; exact h.settle (h.tick _ hs)
  case probeMomentReached e => cases he; exact h.settle (h.probe _ _ hs)
  case frameEnd k => cases he; exact h.settle (h.frame _ _ hs)
  case replyReceived k ws => cases he; exact h.settle (h.reply _ _ _ hs)
  case replyTimeout k => cases he; exact h.settle (h.timeout _ _ hs)
  case resetAsserted => cases he; exact h.settle (h.resetOn _ hs)
  case resetReleased x => cases he; exact h.settle (h.resetOff _ _ hs)
  case loadDone => cases he; exact h.settle (h.loaded _ hs)
  case procStopped => cases he; exact h.settle (h.prun _ _ hs)
  case procRunning => cases he; exact h.settle (h.prun _ _ hs)
  case replyFirstWord k => cases he; exact h.settle (h.firstWord _ _ hs)
  case prunChangeNotRunning b => cases he; exact h.settle (h.prun _ _ hs)
  all_goals
    cases he
    exact h.hostArrives _ hs

/-- A property that each part of a step keeps is kept by every step. -/
theorem step_keeps {s t : State} (hs : I s) (he : step s = .next t) : I t := by
  unfold step at he
  split at he
  · cases he
    exact h.edge _ hs
  · exact exec_keeps h (h.pending _ _ hs) he

end

/-! ### The ways a host transaction is taken -/

/-- A property of the state that taking a transaction leaves, by the ways it can be taken. -/
theorem takeTxn_cases {I : State → Prop} {t : HostTxn} {s : State}
    (mis : ∀ f, txnFault t = some f → I (takeMisformed t f s))
    (plain : txnFault t = none → roomAsked s t = some 1 → I (forwardPlain t s))
    (area : ∀ o, s.part = .running → roomAsked s t = some 1 → FallsInArea o t s → I (takeArea o t s))
    (failed : ∀ o, s.part = .failed → roomAsked s t = some 1 → I (takeAreaFailed o t s))
    (region : ∀ g, s.part = .running → txnFault t = none → areaOffset s (txnAddr t) = none →
      regionOf s (txnAddr t) = some g → I (takeRegion g t s))
    (waits : s.part = .loading → I s) : I (takeTxn t s) := by
  unfold takeTxn
  split
  · rename_i f hf; exact mis f hf
  · rename_i hf
    have ask : (s.part = .running → (areaOffset s (txnAddr t)).isSome ∨ regionOf s (txnAddr t) = none) →
        roomAsked s t = some 1 := by
      intro hx
      unfold roomAsked
      simp only [hf, Option.isSome_none, Bool.false_eq_true, if_false]
      split
      · rename_i hp
        rcases hx hp.1 with hx | hx
        · have := hp.2
          rw [Option.isNone_iff_eq_none] at this
          rw [this] at hx
          cases hx
        · rw [hx]
          simp only [Option.map_none]
      · rfl
    split
    · rename_i hp
      unfold takeRunning
      split
      · rename_i o ho
        exact area o hp (ask fun _ => Or.inl (by rw [ho]; rfl)) ⟨hp, hf, ho⟩
      · rename_i ho
        split
        · rename_i g hg; exact region g hp hf ho hg
        · rename_i hg; exact plain hf (ask fun _ => Or.inr hg)
    · rename_i hp
      have hn : ¬ s.part = .running := by rw [hp]; decide
      unfold takeFailed
      split
      · rename_i o ho
        exact failed o hp (ask fun hx => absurd hx hn)
      · exact plain hf (ask fun hx => absurd hx hn)
    · rename_i hp
      exact plain hf (ask fun hx => by rw [hp] at hx; cases hx)
    · rename_i hp
      exact waits hp

/-- Taking a transaction leaves the arrivals behind it. -/
@[simp] theorem takeTxn_arrivals (t : HostTxn) (s : State) :
    (takeTxn t s).transit.arrivals = s.transit.arrivals := by
  refine takeTxn_cases (I := fun u => u.transit.arrivals = s.transit.arrivals) ?_ ?_ ?_ ?_ ?_ ?_
  · intros; simp
  · intros; simp
  · intros
    unfold takeArea readArea writeArea acceptArea
    dsimp only
    (repeat' split) <;> simp [enterLoading, clearShadows]
  · intros
    unfold takeAreaFailed readArea writeAreaFailed
    dsimp only
    (repeat' split) <;> simp [enterLoading, clearShadows]
  · intros
    unfold takeRegion readRegion writeRegion guardedWrite
    (repeat' split) <;> simp
  · intros; rfl

/-- The part has come to rest when what it could take has been taken. -/
theorem settle_rests (s : State) : ∃ u, settle s = calm u := by
  have key : ∀ n u, ∃ w, serve n (calm u) = calm w := by
    intro n
    induction n with
    | zero => exact fun u => ⟨u, rfl⟩
    | succ n ih =>
        intro u
        unfold serve
        split
        · exact ih _
        · exact ⟨u, rfl⟩
  exact key _ _

end Sys2Proof.Machine
end

