-- ==== Sys2Proof/Machine/ShelfSide.lean ====
section
/-! DEFINITION. A lamp shelf as the lamp link sees it (R144 to R147, R149, R200, log 10): an agent outside the part. It
takes the frames the part sends and answers with the words of a REPLY. -/

namespace Sys2Proof.Machine

/-- What a shelf holds: its strapped address, the modes its lamps show, the phase held, its faults and supply. -/
structure ShelfUnit where
  addr     : Nat
  shown    : Image
  phase    : Nat
  faults   : BitVec 48
  powerLow : Bool
deriving DecidableEq, Repr

/-- A shelf just powered up: every lamp OFF, phase 0 (R146). -/
def ShelfUnit.powerUp (addr : Nat) (faults : BitVec 48) (powerLow : Bool) : ShelfUnit :=
  ⟨addr, Image.dark, 0, faults, powerLow⟩

/-- The REPLY of a shelf, echoing a sequence (R147, section 11.8). -/
def replyFrame (u : ShelfUnit) (echo : Nat) : List FrameWord :=
  sealFrame ([BitVec.ofNat 16 (4 * 256 + u.addr), BitVec.ofNat 16 echo, if u.powerLow then 1 else 0]
    ++ wordsOf 3 u.faults.toNat ++ [BitVec.ofNat 16 (checksum u.shown)])

/-- The modes that six frame words carry (section 11.8). -/
def imageOfWords (ws : List FrameWord) : Image := imageOf (ws.foldr (fun w n => w.toNat + 65536 * n) 0)

/-- A frame at a shelf: discarded when its words do not sum to 0 or its kind or length is none of the three; acted on
when it is for this shelf, or for all (R144 to R146, R149, R200). -/
def shelfTakes (u : ShelfUnit) (frame : List FrameWord) : ShelfUnit × Option (List FrameWord) :=
  if wordSum frame ≠ 0 then (u, none)
  else match frame with
    | [w0, w1, m0, m1, m2, m3, m4, m5, _] =>
        if w0.toNat / 256 = 1 ∧ w0.toNat % 256 = u.addr then
          let u' := { u with shown := imageOfWords [m0, m1, m2, m3, m4, m5] }
          (u', some (replyFrame u' w1.toNat))
        else (u, none)
    | [w0, _] =>
        if w0.toNat / 256 = 2 ∧ w0.toNat % 256 = u.addr then (u, some (replyFrame u 0)) else (u, none)
    | [w0, w1, _] =>
        if w0.toNat / 256 = 3 ∧ w0.toNat % 256 = 127 then ({ u with phase := w1.toNat }, none) else (u, none)
    | _ => (u, none)

/-- The bits of a frame arrive at a shelf, and those of its REPLY, if it makes one, pass back (R200). -/
def shelfHears (u : ShelfUnit) (bits : List Bool) : ShelfUnit × Option (List Bool) :=
  ((shelfTakes u (framed bits)).1, (shelfTakes u (framed bits)).2.map frameBits)

/-- A lamp is lit by its mode and the phase held (R149). -/
def isLit (mode : LampMode) (phase : Nat) : Bool :=
  match mode with
  | .off => false
  | .steady => true
  | .slow => decide (phase < 4)
  | .fast => phase % 2 == 0

/-- Whether a lamp of a shelf is lit. -/
def lampLit (u : ShelfUnit) (k : Fin 48) : Bool := isLit u.shown[k] u.phase

end Sys2Proof.Machine
end

