-- ==== Sys2Proof/WellFormed.lean ====
section
/-! DEFINITION. Which commands have operands of their row's kind. A check here never depends on the state of the part:
where an address falls is classified when the transaction is taken (R170). -/

namespace Sys2Proof

/-- The three conditions of R165, over the address and length presented. -/
def formed (addr : Addr) (words : BitVec 8) : Bool :=
  addr.toNat % 8 == 0 && (1 ≤ words.toNat && words.toNat ≤ 16) && addr.toNat % 128 + words.toNat * 8 ≤ 128

/-- A READ that the link can carry whole (R165). -/
def HostRead.wf (r : HostRead) : Bool := formed r.addr r.words

/-- A WRITE that the link can carry whole (R165), with one lane for each byte. -/
def HostWrite.wf (w : HostWrite) : Bool := formed w.addr w.words && w.lanes.length == 8 * w.words.toNat

/-- A transaction that R165 calls well formed. -/
def HostTxn.wf : HostTxn → Bool
  | .read r  => r.wf
  | .write w => w.wf

/-- Offset within a 4 GiB step: the Control Area lies at the start of one of them (R167). -/
def HostWrite.areaOffset (w : HostWrite) : Nat := w.addr.toNat % 4294967296

/-- The write touches bytes first to last of the Control Area's layout (section 11.4 to 11.6). -/
def HostWrite.touches (w : HostWrite) (first last : Nat) : Bool :=
  w.areaOffset ≤ last && first < w.areaOffset + 8 * w.words.toNat

/-- The command code that a whole write of the command record carries: none when the record at 0080h is not covered
whole with every byte enabled (section 11.4, R182). -/
def HostWrite.commandCode (w : HostWrite) : Option Nat :=
  let cell := (w.lanes.drop (128 - w.areaOffset)).take 16
  if w.areaOffset ≤ 128 ∧ cell.length = 16 ∧ cell.all (·.enabled) then
    some ((cell.getD 0 ⟨true, 0⟩).data.toNat + 256 * (cell.getD 1 ⟨true, 0⟩).data.toNat)
  else none

/-- A write of the command record with one code. -/
def HostWrite.commands (w : HostWrite) (code : Nat) : Bool := w.wf && w.commandCode == some code

/-- Every check on a command's operands. -/
def Instr.WellFormed : Instr → Bool
  | .slotDirWrite w => w.wf
  | .slotDirRead r => r.wf
  | .mailboxDirWrite w => w.wf
  | .mailboxDirRead r => r.wf
  | .audioWrite w => w.wf
  | .greetingWrite w => w.wf
  | .aliasReadPositionZero r => r.wf
  | .aliasRead r => r.wf
  | .aliasWrite w => w.wf
  | .reportRegionWrite w => w.wf
  | .plainTransaction t => t.wf
  | .linkMisformed (.read r) => !formed r.addr r.words
  | .linkMisformed (.write w) => !formed w.addr w.words
  | .controlAreaWrite w => w.wf
  | .classEntryWrite w => w.wf && w.touches 0x400 0x5ff
  | .calibrationWrite w => w.wf && w.touches 0x600 0x63f
  | .breakListWrite w => w.wf && w.touches 0x700 0x77f
  | .scheduleWrite w => w.wf && w.touches 0x800 0xfff
  | .broadcastEntryWrite w => w.wf && w.touches 0x1000 0x11ff
  | .shelfEntryWrite w => w.wf && w.touches 0x2000 0x37ff
  | .reportConsumerWrite w => w.wf && w.touches 0xc0 0xc7
  | .errorLatchClear w => w.wf && w.touches 0x110 0x111
  | .restart w _ => w.commands 1
  | .sweepNow w => w.commands 2
  | .clockSet w => w.commands 3
  | .broadcastPost w => w.commands 4
  | .broadcastWithdraw w => w.commands 5
  | .lampRefresh w => w.commands 6
  | .badCommand w => w.wf && (match w.commandCode with | some c => c == 0 || 6 < c | none => false)
  | .memoryAnswer m => m.data.length ≤ 128 && m.data.length % 8 == 0
  | .depositIdleExpiry k => k < 48
  | .timeoutClaim => true
  | .sweepVisit => true
  | .reportWrite => true
  | .loaderRoomGrant => true
  | .calendarAdvance => true
  | .latchIdleExpiry k => k < 48
  | .cadenceTick => true
  | .probeMomentReached e => e < 192
  | .frameEnd _ => true
  | .replyReceived _ bits => !bits.isEmpty
  | .replyTimeout _ => true
  | .resetAsserted => true
  | .resetReleased _ => true
  | .loadDone => true
  | .procStopped => true
  | .procRunning => true
  | .replyFirstWord _ => true
  | .controlAreaRead r => r.wf && (r.addr.toNat % 4294967296 < 65536 : Bool)
  | .prunChangeNotRunning _ => true

end Sys2Proof
end

