-- ==== Sys2Proof/Tests/Slice0.lean ====
section
/-! SUPPORT. The part's own tests: an ill-formed command for each check of WellFormed, a few values the spec gives, and
for every obligation with hypotheses a state and operands that meet them. -/

namespace Sys2Proof.Tests

set_option Elab.async false

open Sys2Proof Sys2Proof.Machine

/-! ### WellFormed -/

/-- A write of `n` words with every byte enabled and zero. -/
def full (addr : Addr) (n : Nat) : HostWrite := ⟨addr, BitVec.ofNat 8 n, List.replicate (8 * n) ⟨true, 0⟩⟩

/-- A write of the command record with a code. -/
def commanding (code : Nat) : HostWrite :=
  ⟨0x80, 2, ⟨true, BitVec.ofNat 8 code⟩ :: List.replicate 15 ⟨true, 0⟩⟩

theorem test_wf_align : (Instr.slotDirRead ⟨4, 1⟩).WellFormed = false := by decide
theorem test_wf_length : (Instr.slotDirRead ⟨0, 0⟩).WellFormed = false
    ∧ (Instr.aliasRead ⟨0, 17⟩).WellFormed = false := by decide
theorem test_wf_line : (Instr.mailboxDirRead ⟨120, 2⟩).WellFormed = false := by decide
theorem test_wf_lanes : (Instr.slotDirWrite ⟨0, 1, []⟩).WellFormed = false := by decide
theorem test_wf_host_writes : ∀ c ∈ [Instr.mailboxDirWrite, .audioWrite, .greetingWrite, .aliasWrite,
    .reportRegionWrite, .controlAreaWrite], (c ⟨4, 1, []⟩).WellFormed = false := by decide
theorem test_wf_host_reads : (Instr.aliasReadPositionZero ⟨4, 1⟩).WellFormed = false
    ∧ (Instr.plainTransaction (.read ⟨4, 1⟩)).WellFormed = false
    ∧ (Instr.plainTransaction (.write ⟨4, 1, []⟩)).WellFormed = false := by decide
theorem test_wf_misformed : (Instr.linkMisformed (.read ⟨0, 1⟩)).WellFormed = false
    ∧ (Instr.linkMisformed (.write (full 0 1))).WellFormed = false := by decide
theorem test_wf_records : ∀ c ∈ [Instr.classEntryWrite, .calibrationWrite, .breakListWrite, .scheduleWrite,
    .broadcastEntryWrite, .shelfEntryWrite, .reportConsumerWrite, .errorLatchClear],
    (c (full 0 1)).WellFormed = false := by decide
theorem test_wf_commands : (Instr.restart (commanding 2) 0).WellFormed = false
    ∧ (Instr.sweepNow (commanding 1)).WellFormed = false ∧ (Instr.clockSet (commanding 1)).WellFormed = false
    ∧ (Instr.broadcastPost (commanding 1)).WellFormed = false
    ∧ (Instr.broadcastWithdraw (commanding 1)).WellFormed = false
    ∧ (Instr.lampRefresh (commanding 1)).WellFormed = false ∧ (Instr.badCommand (commanding 6)).WellFormed = false
    ∧ (Instr.badCommand (full 0x80 1)).WellFormed = false := by decide
theorem test_wf_events : (Instr.memoryAnswer ⟨false, [0]⟩).WellFormed = false
    ∧ (Instr.memoryAnswer ⟨false, List.replicate 136 0⟩).WellFormed = false
    ∧ (Instr.depositIdleExpiry 48).WellFormed = false ∧ (Instr.latchIdleExpiry 48).WellFormed = false
    ∧ (Instr.probeMomentReached 192).WellFormed = false ∧ (Instr.replyReceived .a []).WellFormed = false
    ∧ (Instr.controlAreaRead ⟨0x10000, 1⟩).WellFormed = false := by decide +kernel
theorem test_wf_good : (Instr.restart (commanding 1) 0).WellFormed = true
    ∧ (Instr.badCommand (commanding 7)).WellFormed = true ∧ (Instr.classEntryWrite (full 0x400 8)).WellFormed = true
    ∧ (Instr.linkMisformed (.read ⟨4, 1⟩)).WellFormed = true := by decide +kernel

/-! ### Values the spec gives -/

/-- Bits of the frames of section 11.8, written out: PROBE of shelf 5, CADENCE of phase 3. -/
theorem test_frames : probeFrame 5 = [0x0205, 0xfdfb] ∧ cadenceFrame 3 = [0x037f, 0x0003, 0xfc7e] := by decide
theorem test_lamp_set : (lampSetFrame 1 2 (Image.dark.setIfInBounds 9 .slow)).map (·.toNat)
    = [0x0101, 2, 0, 8, 0, 0, 0, 0, 0xfef5] := by decide
/-- The bits of PROBE of shelf 5, 0205h and fdfbh, least significant first (R200), and the words they form again. -/
theorem test_frame_bits :
    (frameBits (probeFrame 5)).map (·.toNat)
      = [1, 0, 1, 0, 0, 0, 0, 0, 0, 1, 0, 0, 0, 0, 0, 0, 1, 1, 0, 1, 1, 1, 1, 1, 1, 0, 1, 1, 1, 1, 1, 1]
    ∧ framed (frameBits (probeFrame 5)) = probeFrame 5 ∧ framed ((frameBits (probeFrame 5)).take 31) = [] := by decide +kernel
/-- A shelf hears the bits of a PROBE and answers with the bits of a reply that the part reads (R146, R200). -/
theorem test_shelf_hears :
    ((shelfHears (ShelfUnit.powerUp 5 2 true) (frameBits (probeFrame 5))).2.bind fun bits => readReply (framed bits)).map
      (fun r => (r.addr, r.echo, r.powerLow, r.faults, r.checksum)) = some (5, 0, true, 2, 0)
    ∧ (shelfHears (ShelfUnit.powerUp 6 2 true) (frameBits (probeFrame 5))).2 = none := by decide +kernel
/-- A shelf that acts on a LAMP_SET answers with a reply that the part reads (section 11.8). -/
theorem test_reply : (readReply (replyFrame (ShelfUnit.powerUp 7 2 true) 4)).map (fun r => (r.addr, r.echo, r.powerLow, r.checksum))
    = some (7, 4, true, checksum Image.dark) := by decide
theorem test_timeout_cycles : Config.timeoutCycles 200 = 7 ∧ Config.timeoutCycles 1000 = 33 := by decide
/-- One gain step: 256 is a gain of 1; the clamp and the truncation toward zero (R57). -/
theorem test_scaled : scaled ⟨0, 256, 0⟩ (-5) = -5 ∧ scaled ⟨0, 128, 0⟩ (-5) = -2
    ∧ clamped (scaled ⟨2047, 1023, 0⟩ 32767) = 32767 := by decide
theorem test_state_entry : (stateEntry 0x100000 3 { SlotRec.empty with state := .expired } (.slotState 3)).addr
    = 0x100060 := by decide
theorem test_memory_side : memoryByte 0 (writeMemory 0 8 [⟨true, 5⟩, ⟨false, 6⟩] []) 8 = 5
    ∧ memoryByte 0 (writeMemory 0 8 [⟨true, 5⟩, ⟨false, 6⟩] []) 9 = 0 := by decide

/-! ### A small part at work

Mailbox 3 is ACTIVE and owns slot 5. The regions lie apart: MAILBOX_DIR at 10000h, SLOT_DIR at 100000h, AUDIO from block
1000h, GREETING from block 600h, REPORT at 800000h, ALIAS at 100000000h. -/

def regions : List Region :=
  [⟨.mailboxDir, 0x10000, 0x80000⟩, ⟨.slotDir, 0x100000, 0x200000⟩, ⟨.audio, 0x1000000, 0x1000000⟩,
    ⟨.greeting, 0x600000, 0x100000⟩, ⟨.report, 0x800000, 0x10000⟩, ⟨.aliasWindow, 0x100000000, 0x200000000⟩]

def newSlot : SlotRec := { SlotRec.empty with owner := 3, state := .new, verdict := .kept }

def activeBox : MailboxRec :=
  { MailboxRec.empty with
    status := .active, capacity := 2, nonFree := 1, new := 1, mode := .steady, unheardQueue := [5],
    primary := ⟨0x600, 2⟩ }

def atWork : State :=
  { State.reset with
    part := .running
    transit := { State.reset.transit with regions := regions }
    slots := [(5, newSlot)]
    boxes := [(3, activeBox)]
    reports := { State.reset.reports with base := some 0x800000 } }

/-- Slot 5 with another record. -/
def slotted (r : SlotRec) : State := { atWork with slots := [(5, r)] }

/-- Mailbox 3 with another record. -/
def boxed (b : MailboxRec) : State := { atWork with boxes := [(3, b)] }

def context0 : Context := ⟨5, 3, 0, 0x1000, 4, .opened 100, 30, ⟨7, 2, 0⟩⟩

/-- Slot 5 RECORDING in context 0. -/
def recording : State :=
  putContext 0 (some context0)
    (slotted { newSlot with state := .recording, verdict := .none, firstBlock := 0x1000, context := some 0 })

/-- Broadcast 16 is LIVE from slot 5 for mailbox 4. -/
def broadcasting : State :=
  putBroadcast 15 ⟨true, true, 5, 1, true, none, [4]⟩
    { atWork with boxes := [(3, activeBox), (4, { MailboxRec.empty with
        status := .active, unheard := 1, urgentUnheard := 1, mode := .fast })] }

def latch0 : Latch := ⟨3, 1, .primary, [⟨.greeting, 0x600, 2, 0⟩], 2, 500⟩

/-- Latch 0 holds lane 1 of mailbox 3. -/
def latched : State := putLatch 0 (some latch0) atWork

def lanes (code : Nat) (offset size : Nat) : List Lane :=
  List.replicate offset dead ++ [⟨true, BitVec.ofNat 8 code⟩] ++ List.replicate (size - offset - 1) dead

/-- What a command leaves, seen through a test. -/
def leaves (c : Instr) (s : State) (p : State → Bool) : Bool :=
  match exec c s with
  | .next t => p t
  | _ => false

theorem ready (t : HostTxn) (s : State) (n : Nat) (ha : s.transit.arrivals = []) (hp : s.part ≠ .loading)
    (ho : s.transit.order.length < 64) (ht : s.transit.turn = .upstream)
    (hr : roomAsked s t = none ∨ roomAsked s t = some n) (hn : n ≤ freeRoom s) : PortReady t s := by
  refine ⟨ha, hp, ho, fun k hk => ⟨?_, Or.inl ht⟩⟩
  rcases hr with h | h
  · rw [h] at hk; cases hk
  · rw [h] at hk; cases hk; exact hn

theorem shelf_empty {s : State} (h : s.lamps = State.reset.lamps) (e : Nat) : shelfAt s e = Shelf.empty := by
  unfold shelfAt shelfOf
  rw [h]
  show ((Vector.replicate 192 Shelf.empty)[e]?).getD _ = _
  by_cases he : e < 192 <;> simp [he]

theorem no_cell {n : Nat} {α : Type} (d : α) (k : Nat) : ((Vector.replicate n d)[k]?).getD d = d := by
  by_cases hk : k < n <;> simp [hk]

theorem box_other (m : Nat) (h : m ≠ 3) : boxAt atWork m = MailboxRec.empty := by
  simp [boxAt, atWork, sparseGet, h]

theorem slot_other (n : Nat) (h : n ≠ 5) : slotAt atWork n = SlotRec.empty := by
  simp [slotAt, atWork, sparseGet, h]

/-! ### Hypotheses met: steps and invariants -/

theorem test_met_front : { State.reset with pending := [.resetReleased 0] }.pending = .resetReleased 0 :: [] := rfl

theorem test_met_edge_reset : State.reset.pending = [] ∧ State.reset.part = .reset := ⟨rfl, rfl⟩

theorem test_met_edge_count : atWork.pending = [] ∧ atWork.part ≠ .reset
    ∧ { atWork.calendar with fraction := 32766 }.fraction + 1 < 32768
    ∧ 32768 ≤ { atWork.calendar with fraction := 32767 }.fraction + 1
    ∧ { atWork.lamps with cycles := 8190 }.cycles + 1 < 8192
    ∧ 8192 ≤ { atWork.lamps with cycles := 8191 }.cycles + 1 := by decide

/-- What falls due at one edge: a probe moment comes before a reply timeout (log 4). -/
theorem test_edge_order :
    let x : Exchange := ⟨.lampSet, 95, 4, some Image.dark, [], .waiting 1, false⟩
    dueEvents 1 (setActivity .a (.exchange x) (updateShelf 95 (fun sh => { sh with probeAt := some 1 }) atWork))
      = [.probeMomentReached 95, .replyTimeout .a] := by decide +kernel

/-- Every step of the state at work answers a next state. -/
theorem test_met_step : ∃ t, step atWork = .next t := ⟨_, rfl⟩

theorem test_met_bounds : PlacesBounded atWork ∧ RingBounded atWork ∧ CalendarBounded atWork ∧ LoaderPresent atWork
    ∧ LinksBounded atWork := by
  refine ⟨⟨by decide, by decide⟩, ⟨by decide, by decide, by decide, fun l h => by cases h⟩,
    ⟨by decide, by decide, by decide, by decide⟩,
    ⟨⟨(fun h => by cases h), (fun h => by cases h with | inl h => cases h | inr h => cases h)⟩,
      (fun h => by cases h.1), (fun h => by cases h)⟩,
    ?_, by decide, by decide, by decide, by decide⟩
  intro e
  rw [shelf_empty (s := atWork) rfl]
  exact ⟨by decide, by decide⟩

/-- A load begun, its first read waiting in the queue. -/
def reading : State :=
  { State.reset with
    part := .loading
    transit := { State.reset.transit with queue := [⟨.read, 0, 16, [], .loadRead 0⟩] }
    loader := some ⟨1, 0, [], 0, []⟩ }

theorem test_met_order : LoadInOrder reading ∧ LoaderPresent reading ∧ LoadInOrder atWork ∧ TurnHome State.reset
    ∧ State.reset.part = .reset := by
  refine ⟨⟨rfl, by decide, rfl, fun _ _ => rfl, fun _ _ => rfl⟩,
    ⟨⟨fun _ => .inl rfl, fun _ => rfl⟩, (fun h => by cases h.2), fun h => by cases h⟩, rfl, fun _ => rfl, rfl⟩

theorem test_met_plant : DirtySetsExact atWork ∧ ImagesComposed atWork := by
  refine ⟨⟨?_, ?_⟩, ?_⟩
  · refine ⟨.nil, (fun a h => by cases h), fun _ a _ => ?_⟩
    rw [shelf_empty (s := atWork) rfl]
    exact ⟨(fun h => by cases h), fun h => by cases h.1⟩
  · refine ⟨.nil, (fun a h => by cases h), fun _ a _ => ?_⟩
    rw [shelf_empty (s := atWork) rfl]
    exact ⟨(fun h => by cases h), fun h => by cases h.1⟩
  · intro _ e _ k
    rw [shelf_empty (s := atWork) rfl]
    revert k
    decide

theorem test_met_modes : ModesDerived atWork := by
  intro _
  refine ⟨?_, ?_⟩
  · intro m
    by_cases hm : m = 3
    · subst hm; decide
    · unfold classOf
      rw [box_other m hm]
      decide
  · intro m p h _
    have none3 : lampPosition (boxAt atWork 3) = none ∧ lampPosition MailboxRec.empty = none := by decide
    by_cases hm : m = 3
    · subst hm
      rw [none3.1] at h
      cases h
    · rw [box_other m hm, none3.2] at h
      cases h

theorem test_met_canonical : DirectoriesCanonical atWork := ⟨by decide, by decide, by decide⟩

theorem test_met_positions : HoldersNamed atWork ∧ UnheldUnmapped atWork := by
  refine ⟨(fun m p h => by cases h), fun p hp _ => ?_⟩
  rw [shelf_empty (s := atWork) rfl]
  show (Vector.replicate 48 (none : Option LampMode))[p % 48]? = some none
  simp [Nat.mod_lt]

theorem test_met_single : ExtentsApart recording ∧ LatchesApart latched ∧ PositionsHeld atWork := by
  refine ⟨?_, ?_, ?_⟩
  · intro i j a b hij ha hb
    have one : ∀ k c, contextAt recording k = some c → k = 0 := by
      intro k c h
      by_cases hk : k = 0
      · exact hk
      · have : contextAt recording k = none := by
          show ((Vector.replicate 48 none).setIfInBounds 0 (some context0))[k]?.getD none = none
          rw [Vector.getElem?_setIfInBounds_ne (fun h => hk h.symm)]
          exact no_cell none k
        rw [this] at h
        cases h
    exact absurd ((one i a ha).trans (one j b hb).symm) hij
  · intro i j a b hij ha hb
    have one : ∀ k c, latchAt latched k = some c → k = 0 := by
      intro k c h
      by_cases hk : k = 0
      · exact hk
      · have : latchAt latched k = none := by
          show ((Vector.replicate 48 none).setIfInBounds 0 (some latch0))[k]?.getD none = none
          rw [Vector.getElem?_setIfInBounds_ne (fun h => hk h.symm)]
          exact no_cell none k
        rw [this] at h
        cases h
    exact absurd ((one i a ha).trans (one j b hb).symm) hij
  · intro m p h
    by_cases hm : m = 3
    · subst hm
      have : lampPosition (boxAt atWork 3) = none := by decide
      rw [this] at h
      cases h
    · rw [box_other m hm] at h
      have : lampPosition MailboxRec.empty = none := by decide
      rw [this] at h
      cases h

theorem test_met_recordings : RecordingsHeld recording := by
  refine ⟨?_, ?_⟩
  · intro n h
    by_cases hn : n = 5
    · subst hn
      exact ⟨0, context0, by decide, by decide, rfl⟩
    · have : slotAt recording n = SlotRec.empty := by
        simp [slotAt, recording, putContext, slotted, sparseGet, hn]
      rw [this] at h
      cases h
  · intro k c h
    by_cases hk : k = 0
    · subst hk
      have : contextAt recording 0 = some context0 := by decide
      rw [this] at h
      cases h
      decide
    · have : contextAt recording k = none := by
        show ((Vector.replicate 48 none).setIfInBounds 0 (some context0))[k]?.getD none = none
        rw [Vector.getElem?_setIfInBounds_ne (fun h => hk h.symm)]
        exact no_cell none k
      rw [this] at h
      cases h

theorem broadcast_other (n : Nat) (h : n ≠ 15) : broadcastAt broadcasting n = Broadcast.absent := by
  show ((Vector.replicate 16 Broadcast.absent).setIfInBounds 15 _)[n]?.getD Broadcast.absent = _
  rw [Vector.getElem?_setIfInBounds_ne (fun x => h x.symm)]
  exact no_cell Broadcast.absent n

theorem test_met_broadcasts : SourcesKept broadcasting ∧ BroadcastCountsExact broadcasting
    ∧ DirectoriesCanonical broadcasting := by
  refine ⟨?_, ⟨?_, ?_, ?_, ?_⟩, by decide, by decide, by decide⟩
  · intro n h
    by_cases hn : n = 15
    · subst hn; decide
    · rw [broadcast_other n hn] at h; cases h
  · intro n _; rfl
  · intro n
    by_cases hn : n = 15
    · subst hn; decide
    · rw [broadcast_other n hn]; decide
  · intro n m h
    by_cases hn : n = 15
    · subst hn
      have : (broadcastAt broadcasting 15).pending = [4] := by decide
      rw [this] at h
      cases h with
      | head => decide
      | tail _ h => cases h
    · rw [broadcast_other n hn] at h; cases h
  · intro m
    by_cases hm : m = 4
    · subst hm; decide
    · have hb : (boxAt broadcasting m).unheard = 0 ∧ (boxAt broadcasting m).urgentUnheard = 0 := by
        by_cases h3 : m = 3
        · subst h3; decide
        · have : boxAt broadcasting m = MailboxRec.empty := by
            simp [boxAt, broadcasting, putBroadcast, sparseGet, h3, hm]
          rw [this]; decide
      have hc : ∀ p, holding broadcasting m p = 0 := by
        intro p
        have hl : broadcasting.broadcasts.toList = List.replicate 15 Broadcast.absent ++ [⟨true, true, 5, 1, true, none, [4]⟩] := by
          decide
        unfold holding
        rw [hl]
        simp [Broadcast.absent, hm]
      rw [hb.1, hb.2, hc, hc]
      exact ⟨rfl, rfl⟩

theorem test_met_counts : SlotCountsExact atWork ∧ NothingCounted atWork ∧ QueuesExact atWork := by
  refine ⟨?_, fun h => absurd rfl h, ?_⟩
  · intro _ m
    by_cases hm : m = 3
    · subst hm; decide
    · rw [box_other m hm]
      have : ∀ p, owned atWork m p = 0 := by
        intro p
        have h3 : ¬ 3 = m := fun h => hm h.symm
        simp [owned, atWork, newSlot, h3]
      simp only [this]
      decide
  · intro _ m
    have new5 : ∀ n, (slotAt atWork n).state = .new → n = 5 := by
      intro n h
      by_cases hn : n = 5
      · exact hn
      · rw [slot_other n hn] at h; cases h
    have kept : ∀ n, ¬ ((slotAt atWork n).state = .heard ∨ (slotAt atWork n).state = .saved) := by
      intro n
      by_cases hn : n = 5
      · subst hn; decide
      · rw [slot_other n hn]; decide
    by_cases hm : m = 3
    · subst hm
      have q : (boxAt atWork 3).unheardQueue = [5] ∧ (boxAt atWork 3).keptQueue = [] := by decide
      refine ⟨⟨?_, ?_⟩, ⟨?_, ?_⟩⟩
      · intro n
        rw [q.1]
        constructor
        · intro h
          cases h with
          | head => decide
          | tail _ h => cases h
        · intro h
          rw [new5 n h.2]
          exact .head _
      · rw [q.1]; exact .cons (fun _ h => by cases h) .nil
      · intro n; rw [q.2]; exact ⟨(fun h => by cases h), fun h => absurd h.2 (kept n)⟩
      · rw [q.2]; exact .nil
    · rw [UnheardQueueExact, KeptQueueExact, box_other m hm]
      refine ⟨⟨?_, .nil⟩, ⟨?_, .nil⟩⟩
      · intro n
        refine ⟨(fun h => by cases h), fun h => ?_⟩
        have := new5 n h.2
        subst this
        exact absurd h.1.symm hm
      · intro n; exact ⟨(fun h => by cases h), fun h => absurd h.2 (kept n)⟩

/-! ### Hypotheses met: slots -/

theorem test_met_dir_writes :
    (PortReady (.write (full 0x1000a0 4)) atWork ∧ FallsIn .slotDir 0x100000 (.write (full 0x1000a0 4)) atWork)
    ∧ PortReady (.write (full 0x100c0 8)) atWork ∧ FallsIn .mailboxDir 0x10000 (.write (full 0x100c0 8)) atWork :=
  ⟨⟨ready _ _ 2 rfl (by decide) (by decide) rfl (.inr (by decide +kernel)) (by decide),
      rfl, by decide, by decide, _, rfl⟩,
    ready _ _ 1 rfl (by decide) (by decide) rfl (.inr (by decide +kernel)) (by decide), rfl, by decide, by decide, _, rfl⟩

/-- Slot 5 FREE, its first block in the AUDIO region. -/
def freeSlot : State := slotted { newSlot with state := .free, firstBlock := 0x1000 }

theorem test_met_claim : 0 < (classOf freeSlot 3).maxDeposit
    ∧ anyEnabled (lanes 1 2 32) 2 1 = true ∧ byteOf (laneData (lanes 1 2 32)) 2 = 1
    ∧ (slotAt freeSlot 5).state = .free ∧ claimJudgement freeSlot (slotAt freeSlot 5) = .ok 0 :=
  ⟨by decide, by decide, by decide, by decide, rfl⟩

theorem test_met_claim_refused :
    let s := { freeSlot with boxes := [(3, { activeBox with nonFree := 2 })] }
    (slotAt s 5).state = .free ∧ claimJudgement s (slotAt s 5) = .error (.mailboxFull 2) := ⟨by decide, rfl⟩

/-- The claim fails a check, its first being the given one. -/
def failsWith (s : State) (cause : ReportBody) : Bool :=
  match claimJudgement s (slotAt s 5) with
  | .error c => c == cause
  | .ok _ => false

theorem test_met_claim_order :
    failsWith { freeSlot with boxes := [(3, { activeBox with status := .suspended })] } (.mailboxClosed .suspended)
    ∧ failsWith { freeSlot with boxes := [(3, { activeBox with nonFree := 2 })] } (.mailboxFull 2)
    ∧ failsWith (slotted { newSlot with state := .free, firstBlock := 0xfff }) (.extentOutside 0xfff)
    ∧ failsWith (slotted { newSlot with state := .free, firstBlock := 0x1c01 }) (.extentOutside 0x1c01)
    ∧ (contextAt (putContext 1 (some { context0 with slot := 9, first := 0x13ff }) freeSlot) 0 = none
      ∧ failsWith (putContext 1 (some { context0 with slot := 9, first := 0x13ff }) freeSlot) (.extentClash 9))
    ∧ failsWith { freeSlot with deposit := { freeSlot.deposit with
        contexts := Vector.replicate 48 (some { context0 with first := 0x1400 }) } } .noChannel := by decide +kernel

/-- Class 0 with a minimum of voiced samples. -/
def minimum (n : Nat) (s : State) : State :=
  { s with control := { s.control with classes := s.control.classes.setIfInBounds 0 { ClassEntry.default with minVoiced := n } } }

theorem test_met_commit : anyEnabled (lanes 2 2 32) 2 1 = true ∧ byteOf (laneData (lanes 2 2 32)) 2 = 2
    ∧ (slotAt recording 5).state = .recording ∧ (slotAt recording 5).context = some 0
    ∧ contextAt recording 0 = some context0
    ∧ (0 < (classOf (minimum 3 recording) 3).minVoiced ∧ context0.level.voiced < (classOf (minimum 3 recording) 3).minVoiced)
    ∧ ¬ (0 < (classOf (minimum 2 recording) 3).minVoiced ∧ context0.level.voiced < (classOf (minimum 2 recording) 3).minVoiced) := by
  decide +kernel

theorem test_met_abandon_delete : anyEnabled (lanes 0 2 32) 2 1 = true ∧ byteOf (laneData (lanes 0 2 32)) 2 = 0
    ∧ (slotAt recording 5).state = .recording
    ∧ (slotAt atWork 5).state ≠ .free ∧ (slotAt atWork 5).state ≠ .recording
    ∧ (atWork.broadcasts.toList.countP fun b => b.live && b.source == 5) = 0
    ∧ (broadcasting.broadcasts.toList.countP fun b => b.live && b.source == 5) ≠ 0 := by decide +kernel

theorem test_met_move : ∀ target ∈ [SlotState.new, .heard, .saved], ∃ from_ : SlotState,
    anyEnabled (lanes (slotStateCode target) 2 32) 2 1 = true
    ∧ byteOf (laneData (lanes (slotStateCode target) 2 32)) 2 = slotStateCode target ∧ isKept target = true
    ∧ isKept (slotAt (slotted { newSlot with state := from_ }) 5).state = true
    ∧ (slotAt (slotted { newSlot with state := from_ }) 5).state ≠ target := by
  intro target h
  simp only [List.mem_cons, List.not_mem_nil, or_false] at h
  rcases h with h | h | h <;> subst h
  · exact ⟨.heard, by decide +kernel⟩
  · exact ⟨.new, by decide +kernel⟩
  · exact ⟨.new, by decide +kernel⟩

theorem test_met_refused : ∀ x ∈ [(7, SlotState.new), (5, .new), (6, .new), (1, .new), (3, .expired), (4, .free), (2, .discarded)],
    byteOf (laneData (lanes x.1 2 32)) 2 = x.1
    ∧ x.1 ≠ slotStateCode (slotAt (slotted { newSlot with state := x.2 }) 5).state
    ∧ (6 < x.1 ∨ x.1 = 5 ∨ x.1 = 6 ∨ (x.1 = 1 ∧ x.2 ≠ .free) ∨ ((x.1 = 3 ∨ x.1 = 4) ∧ isKept x.2 = false)
      ∨ (x.1 = 2 ∧ isKept x.2 = false ∧ x.2 ≠ .recording)) := by decide +kernel

theorem test_met_stamped : ∀ k l, k < 8 → (lanes 9 8 32)[k]? = some l → l.enabled = false := by
  intro k l hk h
  have : ∀ i : Fin 8, ((lanes 9 8 32)[i.val]?.map (·.enabled)) = some false := by decide
  have := this ⟨k, hk⟩
  rw [h] at this
  simpa using this

/-- A field of a record of `total` bytes, every byte of it enabled. -/
def fielded (offset size value total : Nat) : List Lane :=
  List.replicate offset dead ++ (leBytes size value).map live ++ List.replicate (total - offset - size) dead

/-- The boundary values of owner, source and first block, none of them held; slot 5 is FREE in one state, NEW in the
other. -/
theorem test_met_slot_fields : (∀ x ∈ [(0, 2, 8191), (0, 2, 8192), (4, 1, 3), (4, 1, 4), (5, 3, 16777215)],
      anyEnabled (fielded x.1 x.2.1 x.2.2 32) x.1 x.2.1 = true
      ∧ mergedField (fielded x.1 x.2.1 x.2.2 32) x.1 x.2.1 0 = x.2.2)
    ∧ (slotAt freeSlot 5).state = .free ∧ (slotAt atWork 5).state ≠ .free
    ∧ (slotAt freeSlot 5).owner = 3 ∧ (slotAt freeSlot 5).source = 0 ∧ (slotAt freeSlot 5).firstBlock = 0x1000
    ∧ mergedField (fielded 0 2 3 32) 0 2 3 = 3 ∧ mergedField (fielded 0 1 5 32) 0 2 0x1203 = 0x1205 := by decide +kernel

theorem test_met_urgent : (∀ v ∈ [0, 1, 2], anyEnabled (lanes v 3 32) 3 1 = true ∧ byteOf (laneData (lanes v 3 32)) 3 = v)
    ∧ (slotAt atWork 5).urgent = false ∧ (slotAt (slotted { newSlot with urgent := true }) 5).urgent = true := by
  decide +kernel

/-- The records that a write's words touch, at the edges of records and lines. -/
theorem test_met_covered : coveredRecords 0x100098 1 32 = [0] ∧ coveredRecords 0x100098 2 32 = [0, 1]
    ∧ coveredRecords 0x1000f8 1 32 = [3] ∧ coveredRecords 0x100080 16 32 = [0, 1, 2, 3]
    ∧ firstRecord 0x100000 0x100098 32 = 4 ∧ coveredRecords 0x100b8 2 64 = [0, 1] ∧ firstRecord 0x10000 0x100b8 64 = 2 := by
  decide

/-- A write of two records, each with one byte enabled: the states of slots 4 and 5. -/
def twoStates (first second : Nat) : HostWrite := ⟨0x100080, 8, lanes first 2 32 ++ lanes second 2 32⟩

/-- Slot 4's EXPIRED is withheld and reported, slot 5's HEARD is taken and stamped, and the write is ADJUSTED. -/
theorem test_directory_write : leaves (.slotDirWrite (twoStates 6 3)) atWork (fun t =>
      t.transit.queue.map (·.origin) == [.host true [], .stamp 5]
        && t.transit.queue.head?.map (fun e => e.lanes.map (·.enabled)) == some (List.replicate 34 false ++ [true] ++ List.replicate 29 false)
        && t.reports.held.map (fun r => (r.body, r.mailbox, r.slot)) == [(.badTransition .free 6, some 0, some 4)]
        && (slotAt t 5).state == .heard) = true
    ∧ leaves (.slotDirWrite (twoStates 0 3)) atWork (fun t =>
      t.transit.queue.map (·.origin) == [.host false [], .stamp 5]) = true
    ∧ leaves (.mailboxDirWrite ⟨0x100c0, 8, lanes 17 6 64⟩) atWork (fun t =>
      t.transit.queue.map (·.origin) == [.host true []]
        && t.transit.queue.head?.map (fun e => e.lanes.any (·.enabled)) == some false
        && t.reports.held.map (fun r => (r.body, r.mailbox)) == [(.fieldRefused .acknowledge, some 3)]) = true := by
  decide +kernel

theorem test_met_unchanged : anyEnabled (lanes 2 2 32) 2 1 = true
    ∧ byteOf (laneData (lanes 2 2 32)) 2 = slotStateCode (slotAt atWork 5).state ∧ anyEnabled (lanes 2 3 32) 2 1 = false
    ∧ byteOf (laneData (lanes 1 0 64)) 0 = statusCode (boxAt atWork 3).status
    ∧ mergedField (lanes 255 4 64) 4 2 (lampNat (boxAt atWork 3)) = lampNat (boxAt atWork 3) := by decide +kernel

theorem test_met_due : isDue 7 { newSlot with expiry := .on 7 } = true ∧ isDue 6 { newSlot with expiry := .on 7 } = false := by
  decide

theorem test_met_dir_reads :
    (PortReady (.read ⟨0x1000a0, 4⟩) atWork ∧ FallsIn .slotDir 0x100000 (.read ⟨0x1000a0, 4⟩) atWork)
    ∧ PortReady (.read ⟨0x100c0, 8⟩) atWork ∧ FallsIn .mailboxDir 0x10000 (.read ⟨0x100c0, 8⟩) atWork :=
  ⟨⟨ready _ _ 1 rfl (by decide) (by decide) rfl (.inr (by decide +kernel)) (by decide),
      rfl, by decide, by decide, _, rfl⟩,
    ready _ _ 1 rfl (by decide) (by decide) rfl (.inr (by decide +kernel)) (by decide), rfl, by decide, by decide, _, rfl⟩

theorem test_met_next_in_queue : nextInQueue { atWork with
    slots := [(5, newSlot), (6, newSlot)], boxes := [(3, { activeBox with new := 2, unheardQueue := [5, 6] })] } 5 = some 6 := by
  decide

/-- Two messages in each queue, of one slot each behind another; slot 9 is in none. -/
def queued (state : SlotState) : State :=
  { atWork with
    slots := [(5, { newSlot with state := state }), (6, { newSlot with state := state }), (9, { newSlot with state := .expired })]
    boxes := [(3, { activeBox with unheardQueue := [5, 6], keptQueue := [5, 6] })] }

theorem test_met_queues : (∀ state ∈ [SlotState.new, .heard, .saved],
      (slotAt (queued state) 5).state = state ∧ (boxAt (queued state) 3).unheardQueue = [] ++ 5 :: 6 :: []
      ∧ (boxAt (queued state) 3).keptQueue = [] ++ 5 :: 6 :: [] ∧ (boxAt (queued state) 3).unheardQueue = [5] ++ [6]
      ∧ 6 ∉ [5])
    ∧ (slotAt (queued .new) 9).state = .expired
    ∧ (boxAt atWork 3).unheardQueue = 5 :: [] ∧ (boxAt atWork 3).keptQueue = [] ∧ (boxAt atWork 4).unheardQueue = []
    ∧ { newSlot with expiry := .on 65535 }.expiry = .on 65535 ∧ newSlot.expiry = .absent (some 0) := by decide +kernel

/-! ### Hypotheses met: mailboxes -/

theorem test_met_status : ∀ v ∈ [3, 0, 2], anyEnabled (lanes v 0 64) 0 1 = true ∧ byteOf (laneData (lanes v 0 64)) 0 = v
    ∧ v ≠ statusCode (boxAt atWork 3).status := by decide +kernel

theorem test_met_status_counts : 0 < (boxAt atWork 3).nonFree
    ∧ (boxAt (boxed { activeBox with nonFree := 0 }) 3).nonFree = 0
    ∧ 1 ≠ statusCode (boxAt (boxed { activeBox with status := .suspended }) 3).status
    ∧ ((boxAt broadcasting 4).nonFree = 0 ∧ 0 ≠ statusCode (boxAt broadcasting 4).status
      ∧ (broadcastAt broadcasting 15).live = true ∧ 4 ∈ (broadcastAt broadcasting 15).pending) := by decide +kernel

theorem test_met_mode : (MailboxRec.empty.status ≠ .active)
    ∧ (activeBox.status = .active ∧ 0 < { activeBox with urgentNew := 1 }.urgentNew)
    ∧ (activeBox.urgentNew = 0 ∧ activeBox.urgentUnheard = 0 ∧ 0 < activeBox.new)
    ∧ (let b := { activeBox with new := 0, full := true }
      b.urgentNew = 0 ∧ b.urgentUnheard = 0 ∧ b.new = 0 ∧ b.unheard = 0 ∧ b.full = true)
    ∧ (let b := { activeBox with new := 0 }
      b.urgentNew = 0 ∧ b.urgentUnheard = 0 ∧ b.new = 0 ∧ b.unheard = 0 ∧ b.full = false) := by decide

/-- The lamp field of the last position, 191 and 47. -/
def lastLamp : List Lane := List.replicate 4 dead ++ [⟨true, 191⟩, ⟨true, 47⟩] ++ List.replicate 58 dead

theorem test_met_lamp : anyEnabled lastLamp 4 2 = true
    ∧ mergedField lastLamp 4 2 (lampNat (boxAt atWork 3)) = 12223 ∧ 12223 ≠ lampNat (boxAt atWork 3)
    ∧ 12223 % 256 ≤ 191 ∧ 12223 / 256 ≤ 47 ∧ 9215 = 12223 % 256 * 48 + 12223 / 256
    ∧ holderAt atWork 9215 = none ∧ holderAt (putHolder 9215 (some 4) atWork) 9215 = some 4 := by decide +kernel

/-- Mailbox 3 at the last position, and a write that moves it to the first. -/
def lastPosition : State :=
  mapLamp 9215 (some .steady) (putHolder 9215 (some 3) (boxed { activeBox with lampShelf := 191, lampNumber := 47 }))

theorem test_met_lamp_moves : anyEnabled (fielded 4 2 0 64) 4 2 = true
    ∧ mergedField (fielded 4 2 0 64) 4 2 (lampNat (boxAt lastPosition 3)) = 0 ∧ 0 ≠ lampNat (boxAt lastPosition 3)
    ∧ holderAt lastPosition 0 = none ∧ lampPosition (boxAt lastPosition 3) = some 9215
    ∧ (shelfAt lastPosition 191).mapped[47]? = some (some .steady)
    ∧ (let t := (judgeLamp 3 ⟨lastPosition, fielded 4 2 0 64, []⟩).state
      holderAt t 9215 = none ∧ (shelfAt t 191).mapped[47]? = some none ∧ holderAt t 0 = some 3
        ∧ (shelfAt t 0).mapped[0]? = some (some .steady)) := by decide +kernel

theorem test_met_lamp_absent : anyEnabled (fielded 4 2 65535 64) 4 2 = true
    ∧ (let b := boxAt (boxed { activeBox with lampShelf := 191, lampNumber := 47 }) 3
      mergedField (fielded 4 2 65535 64) 4 2 (lampNat b) = 65535 ∧ 65535 ≠ lampNat b ∧ lampPosition b = some 9215)
    ∧ ∀ v ∈ [0x00c0, 0x3000], mergedField (fielded 4 2 v 64) 4 2 (lampNat (boxAt atWork 3)) = v
      ∧ v ≠ lampNat (boxAt atWork 3) ∧ v ≠ 65535 ∧ (191 < v % 256 ∨ 47 < v / 256) := by decide +kernel

/-- The plain fields at the ends of their ranges and one past them: offset, size, value. -/
def fieldEnds : List (Nat × Nat × Nat) :=
  [(1, 1, 7), (1, 1, 8), (2, 1, 1), (2, 1, 255), (2, 1, 0), (3, 1, 63), (3, 1, 64), (3, 1, 255), (8, 4, 999999), (8, 4, 1000000),
    (12, 4, 65536 * 1439), (12, 4, 65536 * 1440), (12, 4, 65536 * 65535 + 1), (16, 4, 0x600 + 16777216 * 128),
    (20, 4, 0x600 + 16777216 * 129), (24, 4, 0x6ff + 16777216 * 2), (28, 4, 5)]

theorem test_met_fields : ∀ x ∈ fieldEnds, anyEnabled (fielded x.1 x.2.1 x.2.2 64) x.1 x.2.1 = true
    ∧ mergedField (fielded x.1 x.2.1 x.2.2 64) x.1 x.2.1 0 = x.2.2 := by decide +kernel

/-- The greatest run of blocks a locator may have, and one more. -/
theorem test_met_locator : LocatorValid atWork.transit.regions 0x600 128 ∧ ¬ LocatorValid atWork.transit.regions 0x600 129 :=
  ⟨⟨by decide, by decide, by decide, ⟨.greeting, 0x600000, 0x100000⟩, by decide, rfl, by decide, by decide⟩,
    fun h => absurd h.2.1 (by decide)⟩

theorem test_met_acknowledge : (broadcastAt atWork 0).live = false ∧ (broadcastAt atWork 15).live = false
    ∧ (broadcastAt broadcasting (16 - 1)).live = true ∧ 4 ∈ (broadcastAt broadcasting (16 - 1)).pending
    ∧ (broadcastAt (putBroadcast 0 ⟨true, true, 5, 1, false, none, [4]⟩ atWork) (1 - 1)).live = true
    ∧ 4 ∈ (broadcastAt (putBroadcast 0 ⟨true, true, 5, 1, false, none, [4]⟩ atWork) (1 - 1)).pending := by decide +kernel

/-! ### Hypotheses met: deposits -/

theorem audio_ready (s : State) (h : s.transit = atWork.transit) (hp : s.part = .running) :
    PortReady (.write (full 0x1000000 16)) s ∧ FallsIn .audio 0x1000000 (.write (full 0x1000000 16)) s := by
  have hr : roomAsked s (.write (full 0x1000000 16)) = roomAsked atWork (.write (full 0x1000000 16)) := by
    unfold roomAsked areaOffset regionOf controlBase
    rw [h, hp]
    rfl
  refine ⟨ready _ _ 1 (by rw [h]; rfl) (by rw [hp]; decide) (by rw [h]; decide) (by rw [h]; rfl)
    (.inr (by rw [hr]; decide +kernel)) (by unfold freeRoom; rw [h]; decide), hp, by decide, ?_, 0x1000000, ?_⟩
  · unfold areaOffset controlBase; rw [h]; decide
  · unfold regionOf; rw [h]; rfl

theorem test_met_audio :
    (PortReady (.write (full 0x1000000 16)) atWork ∧ FallsIn .audio 0x1000000 (.write (full 0x1000000 16)) atWork)
    ∧ latchInPlay atWork 0x1000000 = none ∧ matchContext atWork (0x1000000 / 4096) = none
    ∧ (PortReady (.write (full 0x1000000 16)) recording ∧ FallsIn .audio 0x1000000 (.write (full 0x1000000 16)) recording)
    ∧ latchInPlay recording 0x1000000 = none ∧ matchContext recording (0x1000000 / 4096) = some 0
    ∧ contextAt recording 0 = some context0 :=
  ⟨audio_ready _ rfl rfl, by decide +kernel, by decide +kernel, audio_ready _ rfl rfl, by decide +kernel,
    by decide +kernel, by decide +kernel⟩

theorem test_met_sample : ∃ raw x y : Int, ∃ size : Nat, raw = ((0x80 : Byte) ++ (0 : Byte) : BitVec 16).toInt
    ∧ x = Int.tdiv ((raw + (-2048)) * 1023) 256 ∧ y = max (-32768) (min 32767 x) ∧ size = min 32767 y.natAbs :=
  ⟨_, _, _, _, rfl, rfl, rfl, rfl⟩

/-! ### Hypotheses met: greetings -/

/-- The calendar set to day 3, minute 10; the Break List holds day 3; schedule 0 is open from week-minute 0 to 100. -/
def clocked : State :=
  { atWork with
    calendar := ⟨0, 0, 10, 3, true⟩
    greetings := { atWork.greetings with
      breaks := [⟨3, 3⟩], schedules := atWork.greetings.schedules.setIfInBounds 0 [⟨0, 100⟩] } }

theorem test_met_choice : MailboxRec.empty.status ≠ .active ∧ activeBox.status = .active ∧ atWork.calendar.isSet = false
    ∧ clocked.calendar.isSet = true
    ∧ (let b := { activeBox with absence := ⟨0x600, 1⟩, absenceDay := 3, absenceMinute := 11 }
      b.absence.length ≠ 0 ∧ b.absenceMinute ≠ 65535 ∧ clocked.calendar.day = b.absenceDay
        ∧ clocked.calendar.minute < b.absenceMinute)
    ∧ activeBox.absence.length = 0 ∧ (classAt clocked 0).followsBreaks = false
    ∧ ({ ClassEntry.default with followsBreaks := true }.followsBreaks = true
      ∧ ∃ r ∈ clocked.greetings.breaks, r.first ≤ clocked.calendar.day ∧ clocked.calendar.day ≤ r.last)
    ∧ activeBox.schedule = 255
    ∧ ((∃ w ∈ scheduleAt clocked 0, w.on ≤ 99 ∧ 99 < w.off) ∧ ¬ ∃ w ∈ scheduleAt clocked 0, w.on ≤ 100 ∧ 100 < w.off) := by
  decide +kernel

theorem test_met_fallback : activeBox.primary.length ≠ 0 ∧ activeBox.absence.length = 0 ∧ activeBox.onBreak.length = 0
    ∧ activeBox.afterHours.length = 0 ∧ MailboxRec.empty.primary.length = 0
    ∧ ClassEntry.default.system.length = 0 := by decide

theorem alias_ready (s : State) (r : HostRead) (h : s.transit = atWork.transit) (hp : s.part = .running)
    (hr : roomAsked atWork (.read r) = some 1) (hf : txnFault (.read r) = none) (ha : areaOffset atWork r.addr.toNat = none)
    (hg : regionOf atWork r.addr.toNat = some ⟨.aliasWindow, 0x100000000, 0x200000000⟩) :
    PortReady (.read r) s ∧ FallsIn .aliasWindow 0x100000000 (.read r) s := by
  have he : roomAsked s (.read r) = roomAsked atWork (.read r) := by
    unfold roomAsked areaOffset regionOf controlBase
    rw [h, hp]
    rfl
  refine ⟨ready _ _ 1 (by rw [h]; rfl) (by rw [hp]; decide) (by rw [h]; decide) (by rw [h]; rfl)
    (.inr (by rw [he, hr])) (by unfold freeRoom; rw [h]; decide), hp, hf, ?_, 0x200000000, ?_⟩
  · show areaOffset s r.addr.toNat = none
    unfold areaOffset controlBase at ha ⊢; rw [h]; exact ha
  · show regionOf s r.addr.toNat = _
    unfold regionOf at hg ⊢; rw [h]; exact hg

/-- Mailbox 3, lane 1, position 0; lane 0; and positions 128 and 8064 of lane 1. -/
def start1 : HostRead := ⟨0x100380000, 16⟩
def start0 : HostRead := ⟨0x100300000, 16⟩
def later : HostRead := ⟨0x100380080, 16⟩
def lastLine : HostRead := ⟨0x100381f80, 16⟩

/-- Every latch HELD by lane 1 of mailbox 4. -/
def poolEmpty : State :=
  { atWork with greetings := { atWork.greetings with latches := Vector.replicate 48 (some { latch0 with mailbox := 4 }) } }

theorem test_met_alias_ready : ∀ r ∈ [start1, start0, later, lastLine],
    (PortReady (.read r) atWork ∧ FallsIn .aliasWindow 0x100000000 (.read r) atWork)
    ∧ (PortReady (.read r) latched ∧ FallsIn .aliasWindow 0x100000000 (.read r) latched)
    ∧ PortReady (.read r) poolEmpty ∧ FallsIn .aliasWindow 0x100000000 (.read r) poolEmpty := by
  have all : ∀ r ∈ [start1, start0, later, lastLine], roomAsked atWork (.read r) = some 1 ∧ txnFault (.read r) = none
      ∧ areaOffset atWork r.addr.toNat = none
      ∧ regionOf atWork r.addr.toNat = some ⟨.aliasWindow, 0x100000000, 0x200000000⟩ := by decide +kernel
  intro r h
  obtain ⟨h1, h2, h3, h4⟩ := all r h
  exact ⟨alias_ready _ r rfl rfl h1 h2 h3 h4, alias_ready _ r rfl rfl h1 h2 h3 h4, alias_ready _ r rfl rfl h1 h2 h3 h4⟩

theorem test_met_alias_start : (start1.addr.toNat - 0x100000000) % 524288 = 0
    ∧ 3 = (start1.addr.toNat - 0x100000000) / 1048576 ∧ 1 = (start1.addr.toNat - 0x100000000) / 524288 % 2
    ∧ 0 = (start0.addr.toNat - 0x100000000) / 524288 % 2
    ∧ laneLatch latched 3 1 = some 0 ∧ 0 < (composeWindow latched 3 (selectGreeting latched 3)).composed
    ∧ laneLatch atWork 3 1 = none ∧ latchAt atWork 0 = none
    ∧ (let s := { latched with boxes := [(3, { activeBox with primary := ⟨0, 0⟩ })] }
      laneLatch s 3 1 = some 0 ∧ (composeWindow s 3 (selectGreeting s 3)).composed = 0)
    ∧ (let s := boxed { activeBox with primary := ⟨0, 0⟩ }
      laneLatch s 3 1 = none ∧ (composeWindow s 3 (selectGreeting s 3)).composed = 0)
    ∧ laneLatch poolEmpty 3 0 = none ∧ (∀ i : Fin 48, latchAt poolEmpty i ≠ none)
    ∧ 0 < (composeWindow poolEmpty 3 (selectGreeting poolEmpty 3)).composed := by decide +kernel

theorem test_met_alias_later : 128 = (later.addr.toNat - 0x100000000) % 524288
    ∧ 8064 = (lastLine.addr.toNat - 0x100000000) % 524288
    ∧ 3 = (later.addr.toNat - 0x100000000) / 1048576 ∧ 1 = (later.addr.toNat - 0x100000000) / 524288 % 2
    ∧ laneLatch latched 3 1 = some 0 ∧ latchAt latched 0 = some latch0
    ∧ (4096 * latch0.composed ≤ 8064 + 128 ∧ 8064 < 4096 * latch0.composed)
    ∧ ¬ (4096 * latch0.composed ≤ 128 + 128 ∧ 128 < 4096 * latch0.composed)
    ∧ pieceAt latch0.pieces (8191 / 4096) = some ⟨.greeting, 0x600, 2, 0⟩
    ∧ pieceAt latch0.pieces (8192 / 4096) = none
    ∧ (⟨.greeting, 0x600, 2, 0⟩ : Piece) ∈ latch0.pieces
    ∧ (∀ q ∈ latch0.pieces, (q.start ≤ 1 ∧ 1 < q.start + q.length) → q = ⟨.greeting, 0x600, 2, 0⟩) := by decide +kernel

theorem test_met_protected :
    (PortReady (.write (full 0x600000 1)) atWork ∧ FallsIn .greeting 0x600000 (.write (full 0x600000 1)) atWork)
    ∧ latchInPlay atWork 0x600000 = none
    ∧ (PortReady (.write (full 0x600000 1)) latched ∧ FallsIn .greeting 0x600000 (.write (full 0x600000 1)) latched)
    ∧ latchInPlay latched 0x600000 = some latch0
    ∧ (let l := { latch0 with pieces := [⟨.greeting, 0x1000, 2, 0⟩] }
      PortReady (.write (full 0x1000000 16)) (putLatch 0 (some l) atWork)
      ∧ FallsIn .audio 0x1000000 (.write (full 0x1000000 16)) (putLatch 0 (some l) atWork)
      ∧ latchInPlay (putLatch 0 (some l) atWork) 0x1000000 = some l) := by
  refine ⟨⟨ready _ _ 1 rfl (by decide) (by decide) rfl (.inr (by decide +kernel)) (by decide),
      rfl, by decide, by decide, _, rfl⟩, by decide +kernel,
    ⟨ready _ _ 1 rfl (by decide) (by decide) rfl (.inr (by decide +kernel)) (by decide), rfl, by decide, by decide, _, rfl⟩,
    by decide +kernel, (audio_ready _ rfl rfl).1, (audio_ready _ rfl rfl).2, by decide +kernel⟩

theorem test_met_refused_regions :
    (PortReady (.write (full 0x100000000 1)) atWork
      ∧ FallsIn .aliasWindow 0x100000000 (.write (full 0x100000000 1)) atWork)
    ∧ PortReady (.write (full 0x800000 1)) atWork ∧ FallsIn .report 0x800000 (.write (full 0x800000 1)) atWork :=
  ⟨⟨ready _ _ 0 rfl (by decide) (by decide) rfl (.inl (by decide +kernel)) (by decide), rfl, by decide, by decide, _, rfl⟩,
    ready _ _ 0 rfl (by decide) (by decide) rfl (.inl (by decide +kernel)) (by decide), rfl, by decide, by decide, _, rfl⟩

/-! ### Hypotheses met: transactions that reach no unit, and the Control Area -/

theorem test_met_plain : ∀ s ∈ [State.reset, { State.reset with part := .failed }, atWork],
    PortReady (.read ⟨0xf00000000, 1⟩) s ∧ formFault 0xf00000000 1 = none ∧ areaOffset s 0xf00000000 = none
      ∧ regionOf s 0xf00000000 = none := by
  intro s h
  simp only [List.mem_cons, List.not_mem_nil, or_false] at h
  rcases h with h | h | h <;> subst h <;>
    exact ⟨ready _ _ 1 rfl (by decide) (by decide) rfl (.inr (by decide +kernel)) (by decide), by decide, by decide, by decide⟩

/-- A part whose load has failed. -/
def failed : State := { State.reset with part := .failed }

theorem test_met_plain_reads :
    (PortReady (.read ⟨0x1000000, 1⟩) atWork ∧ FallsIn .audio 0x1000000 (.read ⟨0x1000000, 1⟩) atWork)
    ∧ (PortReady (.read ⟨0x600000, 1⟩) atWork ∧ FallsIn .greeting 0x600000 (.read ⟨0x600000, 1⟩) atWork)
    ∧ PortReady (.read ⟨0x800000, 1⟩) atWork ∧ FallsIn .report 0x800000 (.read ⟨0x800000, 1⟩) atWork :=
  ⟨⟨ready _ _ 1 rfl (by decide) (by decide) rfl (.inr (by decide +kernel)) (by decide), rfl, by decide, by decide, _, rfl⟩,
    ⟨ready _ _ 1 rfl (by decide) (by decide) rfl (.inr (by decide +kernel)) (by decide), rfl, by decide, by decide, _, rfl⟩,
    ready _ _ 1 rfl (by decide) (by decide) rfl (.inr (by decide +kernel)) (by decide), rfl, by decide, by decide, _, rfl⟩

/-- Writes of the area in FAILED that carry no RESTART: a table record, and another command. -/
theorem test_met_failed_writes : ∀ w ∈ [full 0x400 8, commanding 2],
    PortReady (.write w) failed ∧ failed.part = .failed ∧ formFault (txnAddr (.write w)) (txnWords (.write w)) = none
    ∧ areaOffset failed (txnAddr (.write w)) = some w.addr.toNat
    ∧ ∀ c, writtenCommand (lineLanes w) (touchedRecords w.addr.toNat w.words.toNat) = some c → c.code ≠ 1 := by
  have all : ∀ w ∈ [full 0x400 8, commanding 2], roomAsked failed (.write w) = some 1
      ∧ formFault (txnAddr (.write w)) (txnWords (.write w)) = none
      ∧ areaOffset failed (txnAddr (.write w)) = some w.addr.toNat
      ∧ ((writtenCommand (lineLanes w) (touchedRecords w.addr.toNat w.words.toNat)).map (·.code) == some 1) = false := by
    decide +kernel
  intro w hw
  obtain ⟨h1, h2, h3, h4⟩ := all w hw
  refine ⟨ready _ _ 1 rfl (by decide) (by decide) rfl (.inr h1) (by decide), rfl, h2, h3, fun c hc h => ?_⟩
  rw [hc] at h4
  simp [h] at h4

theorem test_met_misformed : formFault 4 1 = some .align ∧ formFault 0 0 = some .length ∧ formFault 0 17 = some .length
    ∧ formFault 120 2 = some .line ∧ formFault 120 1 = none ∧ formFault 0 16 = none
    ∧ PortReady (.read ⟨4, 1⟩) atWork ∧ PortReady (.write (full 120 2)) State.reset :=
  ⟨by decide, by decide, by decide, by decide, by decide, by decide,
    ready _ _ 0 rfl (by decide) (by decide) rfl (.inl (by decide)) (by decide),
    ready _ _ 0 rfl (by decide) (by decide) rfl (.inl (by decide)) (by decide)⟩

/-- A write of the area, taken at once. -/
theorem area_ready (w : HostWrite) (s : State) (o : Nat) (h : s.transit = atWork.transit) (hp : s.part = .running)
    (hr : roomAsked atWork (.write w) = some 1) (hf : txnFault (.write w) = none)
    (ha : areaOffset atWork w.addr.toNat = some o) : PortReady (.write w) s ∧ FallsInArea o (.write w) s := by
  have he : roomAsked s (.write w) = roomAsked atWork (.write w) := by
    unfold roomAsked areaOffset regionOf controlBase
    rw [h, hp]
    rfl
  refine ⟨ready _ _ 1 (by rw [h]; rfl) (by rw [hp]; decide) (by rw [h]; decide) (by rw [h]; rfl)
    (.inr (by rw [he, hr])) (by unfold freeRoom; rw [h]; decide), hp, hf, ?_⟩
  show areaOffset s w.addr.toNat = some o
  unfold areaOffset controlBase at ha ⊢; rw [h]; exact ha

theorem test_met_area : (PortReady (.write (full 0x600 2)) atWork ∧ FallsInArea 0x600 (.write (full 0x600 2)) atWork)
    ∧ failedRecords atWork (lineLanes (full 0x600 2)) (touchedRecords 0x600 2) = []
    ∧ writtenCommand (lineLanes (full 0x600 2)) (touchedRecords 0x600 2) = none
    ∧ (PortReady (.write (full 0x600 1)) atWork ∧ FallsInArea 0x600 (.write (full 0x600 1)) atWork)
    ∧ failedRecords atWork (lineLanes (full 0x600 1)) (touchedRecords 0x600 1) ≠ [] :=
  ⟨area_ready _ _ _ rfl rfl (by decide +kernel) (by decide) (by decide), by decide +kernel, by decide +kernel,
    area_ready _ _ _ rfl rfl (by decide +kernel) (by decide) (by decide), by decide +kernel⟩

/-- A zero over the whole code word of the latch empties it; a write of the tables does not. -/
theorem test_met_clear : (PortReady (.write (full 0x110 1)) atWork ∧ FallsInArea 0x110 (.write (full 0x110 1)) atWork)
    ∧ failedRecords atWork (lineLanes (full 0x110 1)) (touchedRecords 0x110 1) = []
    ∧ writtenCommand (lineLanes (full 0x110 1)) (touchedRecords 0x110 1) = none
    ∧ clearsLatch 0x110 (lineLanes (full 0x110 1)) = true ∧ clearsLatch 0x600 (lineLanes (full 0x600 2)) = false :=
  ⟨area_ready _ _ _ rfl rfl (by decide +kernel) (by decide) (by decide), by decide +kernel, by decide +kernel,
    by decide +kernel, by decide +kernel⟩

/-- A record with a byte not enabled, and one covered whole; the first and the last record of each table. -/
theorem test_met_records : (∃ l ∈ areaLanes (lineLanes (full 0x600 1)) (.calibration 0), l.enabled = false)
    ∧ (∀ l ∈ areaLanes (lineLanes (full 0x600 2)) (.calibration 0), l.enabled = true)
    ∧ touchedRecords 0x80 16 = [.command, .consumer] ∧ touchedRecords 0x90 6 = []
    ∧ touchedRecords 0x400 16 = [.cls 0, .cls 1] ∧ touchedRecords 0x5f8 1 = [.cls 7]
    ∧ touchedRecords 0x630 2 = [.calibration 3] ∧ touchedRecords 0x640 1 = [] ∧ touchedRecords 0x778 1 = [.breakList]
    ∧ touchedRecords 0xff8 1 = [.schedule 63] ∧ touchedRecords 0x11e0 4 = [.broadcast 15]
    ∧ touchedRecords 0x37e0 4 = [.shelf 191] ∧ touchedRecords 0x3800 16 = [] := by decide +kernel

theorem test_met_area_read_failed : PortReady (.read ⟨0x100, 8⟩) failed ∧ failed.part = .failed
    ∧ txnFault (.read ⟨0x100, 8⟩) = none ∧ areaOffset failed (txnAddr (.read ⟨0x100, 8⟩)) = some 0x100
    ∧ atWork.reports.latch = none
    ∧ (let e : LatchedError := ⟨.extentClash 7, some 8191, some 65535, some 191⟩
      (e.mailbox = some 8191 ∧ e.slot = some 65535 ∧ e.shelf = some 191)) :=
  ⟨ready _ _ 1 rfl (by decide) (by decide) rfl (.inr (by decide +kernel)) (by decide), rfl, by decide, by decide, rfl,
    rfl, rfl, rfl⟩

theorem test_met_area_read : PortReady (.read ⟨0x100, 8⟩) atWork ∧ FallsInArea 0x100 (.read ⟨0x100, 8⟩) atWork :=
  ⟨ready _ _ 1 rfl (by decide) (by decide) rfl (.inr (by decide +kernel)) (by decide), rfl, by decide, by decide⟩

theorem test_met_class : DirectoriesCanonical atWork ∧ 3 ∈ atWork.boxes.map (·.1) ∧ (boxAt atWork 3).cls = 0
    ∧ (boxAt (boxed { activeBox with cls := 7 }) 3).cls = 7 ∧ 3 ∈ (boxed { activeBox with cls := 7 }).boxes.map (·.1)
    ∧ (boxAt atWork 3).cls ≠ 7 ∧ 8191 ∉ atWork.boxes.map (·.1) ∧ (boxAt atWork 8191).cls = 0 :=
  ⟨⟨by decide, by decide, by decide⟩, by decide, by decide, by decide, by decide, by decide, by decide, by decide⟩

/-- The status record of the part at work (section 11.4). -/
theorem test_status_bytes : (statusBytes 0 clocked).take 16
    = [2, 0, 0, 0, 3, 0, 10, 0, 0, 1, 0, 0, 0, 0, 0, 0] := by decide +kernel

/-! ### Hypotheses met: commands -/

/-- A write of the command record: code, argument, host tag 9. -/
def order (code : Nat) (argument : List Byte) : HostWrite :=
  ⟨0x80, 2, (leBytes 2 code ++ zeros 2 ++ fitBytes 8 argument ++ leBytes 4 9).map live⟩

theorem ordered (w : HostWrite) (c : Command) (s : State) (h : s.transit = atWork.transit) (hp : s.part = .running)
    (hr : roomAsked atWork (.write w) = some 1) (hf : txnFault (.write w) = none)
    (ha : areaOffset atWork w.addr.toNat = some 0x80) (ht : touchedRecords 0x80 w.words.toNat = [.command])
    (hw : writtenCommand (lineLanes w) [.command] = some c) : CommandWritten 0x80 c w s := by
  obtain ⟨h1, h2⟩ := area_ready w s 0x80 h hp hr hf ha
  refine ⟨h1, h2, ?_, by rw [ht]; exact hw⟩
  rw [ht]
  have : (areaLanes (lineLanes w) .command).all (·.enabled) = true := by
    unfold writtenCommand at hw
    split at hw
    · rename_i hx; exact hx.2
    · cases hw
  simp only [failedRecords, judgeRecord, List.filterMap_cons, this]
  rfl

/-- The commands of the tests, with the codes and arguments that the statements' clauses ask. -/
def orders : List HostWrite :=
  [order 1 [], order 2 [], order 3 [255, 255, 0, 0, 159, 5, 59], order 3 [0, 0, 1, 0, 160, 5, 60], order 4 [16],
    order 4 [1], order 4 [0], order 4 [17], order 5 [16], order 5 [1], order 5 [0], order 5 [17], order 6 [], order 0 [],
    order 7 []]

theorem test_met_orders : ∀ w ∈ orders, ∀ s : State, s.transit = atWork.transit → s.part = .running →
    CommandWritten 0x80 (readCommand (laneData w.lanes)) w s := by
  have all : ∀ w ∈ orders, roomAsked atWork (.write w) = some 1 ∧ txnFault (.write w) = none
      ∧ areaOffset atWork w.addr.toNat = some 0x80 ∧ touchedRecords 0x80 w.words.toNat = [.command]
      ∧ writtenCommand (lineLanes w) [.command] = some (readCommand (laneData w.lanes)) := by decide +kernel
  intro w hw s h hp
  obtain ⟨h1, h2, h3, h4, h5⟩ := all w hw
  exact ordered w _ s h hp h1 h2 h3 h4 h5

def carried (w : HostWrite) : Command := readCommand (laneData w.lanes)

theorem test_met_codes : orders.map (fun w => (carried w).code) = [1, 2, 3, 3, 4, 4, 4, 4, 5, 5, 5, 5, 6, 0, 7] := by
  decide +kernel

/-- CLOCK_SET: the last moment of the range, and one past it in each field. -/
theorem test_met_clock_set :
    (let a := (carried (order 3 [255, 255, 0, 0, 159, 5, 59])).argument;
      fieldOf a 0 4 = 65535 ∧ fieldOf a 4 2 = 1439 ∧ fieldOf a 6 1 = 59)
    ∧ (let a := (carried (order 3 [0, 0, 1, 0, 160, 5, 60])).argument;
      fieldOf a 0 4 = 65536 ∧ fieldOf a 4 2 = 1440 ∧ fieldOf a 6 1 = 60) := by decide +kernel

theorem test_met_numbers : [order 4 [16], order 4 [1], order 4 [0], order 4 [17], order 5 [16]].map
    (fun w => fieldOf (carried w).argument 0 4) = [16, 1, 0, 17, 16] := by decide +kernel

theorem test_met_sweep_now : atWork.sweep.active = false
    ∧ { atWork with sweep := ⟨true, .visiting, 0, 9, 0, 0, 0⟩ }.sweep.active = true := by decide

/-- Broadcast 1 is present and IDLE from slot 5. -/
def idleBroadcast (r : SlotRec) : State := putBroadcast 0 ⟨true, false, 5, 1, true, none, []⟩ (slotted r)

theorem test_met_post : (broadcastAt atWork (16 - 1)).present = false
    ∧ (broadcastAt broadcasting (16 - 1)).present = true ∧ (broadcastAt broadcasting (16 - 1)).live = true
    ∧ (let s := idleBroadcast { newSlot with state := .expired }
      (broadcastAt s (1 - 1)).present = true ∧ (broadcastAt s (1 - 1)).live = false
        ∧ isKept (slotAt s (broadcastAt s (1 - 1)).source).state = false)
    ∧ (let s := idleBroadcast newSlot
      (broadcastAt s (1 - 1)).live = false ∧ isKept (slotAt s (broadcastAt s (1 - 1)).source).state = true) := by
  decide +kernel

theorem test_met_post_state : DirectoriesCanonical (idleBroadcast newSlot) ∧ SourcesKept (idleBroadcast newSlot) := by
  refine ⟨⟨by decide, by decide, by decide⟩, ?_⟩
  intro n h
  by_cases hn : n = 0
  · subst hn
    cases h
  · have : broadcastAt (idleBroadcast newSlot) n = Broadcast.absent := by
      show ((Vector.replicate 16 Broadcast.absent).setIfInBounds 0 _)[n]?.getD Broadcast.absent = _
      rw [Vector.getElem?_setIfInBounds_ne (fun x => hn x.symm)]
      exact no_cell Broadcast.absent n
    rw [this] at h
    cases h

theorem test_met_withdraw : (broadcastAt atWork (1 - 1)).live = false ∧ (broadcastAt broadcasting (16 - 1)).live = true
    ∧ ∀ n, (broadcastAt broadcasting n).pending.Nodup := by
  refine ⟨by decide, by decide, ?_⟩
  intro n
  by_cases hn : n = 15
  · subst hn; decide
  · rw [broadcast_other n hn]; decide

theorem test_met_restart : CommandWritten 0x80 (carried (order 1 [])) (order 1 []) { atWork with straps := 15 }
    ∧ (carried (order 1 [])).code = 1 := by
  refine ⟨test_met_orders (order 1 []) (by unfold orders; exact .head _) _ rfl rfl, by decide⟩

/-- A command and the consumer index in one write, from 0080h to 00C8h. -/
def orderAndIndex (code : Nat) : HostWrite :=
  ⟨0x80, 9, (order code []).lanes ++ List.replicate 48 dead ++ (zeros 8).map live⟩

theorem test_met_both : CommandWritten 0x80 (readCommand (laneData (order 2 []).lanes)) (orderAndIndex 2) atWork
    ∧ AreaRecord.consumer ∈ touchedRecords 0x80 (orderAndIndex 2).words.toNat := by
  obtain ⟨h1, h2⟩ := area_ready (orderAndIndex 2) atWork 0x80 rfl rfl (by decide +kernel) (by decide) (by decide)
  exact ⟨⟨h1, h2, by decide +kernel, by decide +kernel⟩, by decide +kernel⟩

theorem test_met_restart_failed : PortReady (.write (order 1 [])) { failed with straps := 15 } ∧ failed.part = .failed
    ∧ txnFault (.write (order 1 [])) = none ∧ areaOffset failed (txnAddr (.write (order 1 []))) = some 0x80
    ∧ writtenCommand (lineLanes (order 1 [])) (touchedRecords 0x80 2) = some (carried (order 1 []))
    ∧ (carried (order 1 [])).code = 1 :=
  ⟨ready _ _ 1 rfl (by decide) (by decide) rfl (.inr (by decide +kernel)) (by decide), rfl, by decide, by decide,
    by decide +kernel, by decide⟩

/-- RESTART in FAILED starts a load; the records of its write are not taken (R181, R185). -/
theorem test_restart_failed_runs : leaves (.restart (order 1 []) 15) failed
    (fun t => t.part == .loading && t.transit.ctlSel == 15 && t.restartTag.isNone) = true := by decide +kernel

/-! ### Hypotheses met: answers, reports, grants -/

/-- The part at work with one entry in the queue. -/
def awaiting (e : Entry) : State := { atWork with transit := { atWork.transit with queue := [e] } }

def aReport : Report := ⟨.noChannel, none, 0, none, none, none, ⟨0, 0, 0, false⟩⟩

theorem test_met_answer : atWork.transit.queue = []
    ∧ (awaiting ⟨.read, 0, 1, [], .host false []⟩).transit.queue = ⟨.read, 0, 1, [], .host false []⟩ :: []
    ∧ (awaiting ⟨.read, 0, 1, [], .translated⟩).transit.queue = ⟨.read, 0, 1, [], .translated⟩ :: []
    ∧ (awaiting ⟨.write, 0, 1, [], .stamp 5⟩).part = .running
    ∧ (awaiting ⟨.write, 0, 1, [], .slotState 5⟩).part = .running
    ∧ (let s := { awaiting ⟨.write, 0, 4, [], .report⟩ with reports := { atWork.reports with writing := some aReport } }
      s.transit.queue = ⟨.write, 0, 4, [], .report⟩ :: [] ∧ s.reports.writing = some aReport) :=
  ⟨rfl, rfl, rfl, rfl, rfl, rfl, rfl⟩

theorem test_met_fault_names : regionOf atWork 0x1000a0 = some ⟨.slotDir, 0x100000, 0x200000⟩
    ∧ regionOf atWork 0x8ffff = some ⟨.mailboxDir, 0x10000, 0x80000⟩ ∧ regionOf atWork 0xf00000000 = none
    ∧ regionOf atWork 0x1000000 = some ⟨.audio, 0x1000000, 0x1000000⟩ := by decide +kernel

/-- Reports held, none read. -/
def holdingReports (n : Nat) : State := { atWork with reports := { atWork.reports with held := List.replicate n aReport } }

theorem test_met_report_failed : failed.part = .failed ∧ ∀ cause, ReportBody.noChannel ≠ .loadFailed cause :=
  ⟨rfl, fun _ h => by cases h⟩

theorem test_met_report : State.reset.part = .reset ∧ atWork.part = .running
    ∧ unread (holdingReports 254).reports + unwritten (holdingReports 254).reports < 255
    ∧ 255 ≤ unread (holdingReports 255).reports + unwritten (holdingReports 255).reports := by decide +kernel

/-- ATTN: a report held does not assert it, an unread record or a held code does (R196). -/
theorem test_attn : attn (holdingReports 1) = false
    ∧ attn { atWork with reports := { atWork.reports with producer := 0, consumer := 255 } } = true
    ∧ attn { atWork with reports := { atWork.reports with latch := some ⟨.noChannel, none, none, none⟩ } } = true := by
  decide

/-- A load just begun. -/
def loading : State := { State.reset with part := .loading, loader := some ⟨0, 0, [], 0, []⟩ }

/-- A load with one entry in the queue. -/
def loadAwaiting (o : Origin) (failing : Option LoadFailure) : State :=
  { loading with
    transit := { loading.transit with queue := [⟨.read, 0, 16, [], o⟩] }
    loader := if failing.isSome then none else loading.loader
    failing := failing }

theorem test_met_load_answers : (loadAwaiting (.loadRead 0) none).part = .loading
    ∧ (loadAwaiting (.loadRead 0) none).transit.queue = ⟨.read, 0, 16, [], .loadRead 0⟩ :: []
    ∧ (loadAwaiting .loadWrite none).transit.queue = ⟨.read, 0, 16, [], .loadWrite⟩ :: []
    ∧ (loadAwaiting .drained (some (.version 2))).transit.queue = ⟨.read, 0, 16, [], .drained⟩ :: []
    ∧ (awaiting ⟨.read, 0, 16, [], .loadRead 0⟩).part ≠ .loading := by decide +kernel

/-- A failed load stays LOADING until its last entry has drained, and then settles in FAILED (log 37). -/
theorem test_failure_drains : leaves (.memoryAnswer ⟨true, []⟩)
      { loadAwaiting (.loadRead 0) none with transit := { loading.transit with
          queue := [⟨.read, 0, 16, [], .loadRead 0⟩, ⟨.read, 128, 16, [], .loadRead 1⟩] } }
      (fun t => t.part == .loading && t.reports.held.isEmpty && t.reports.latch.isSome
        && leaves (.memoryAnswer ⟨false, []⟩) t (fun u => u.part == .failed && u.reports.dropped)) = true := by
  decide +kernel

theorem test_met_grants : isGranted .control (passTurn (holdingReports 1)) = true
    ∧ (holdingReports 1).reports.held = aReport :: [] ∧ (holdingReports 1).reports.base = some 0x800000
    ∧ isGranted .control (passTurn atWork) = false
    ∧ isGranted .loader (passTurn loading) = true ∧ loading.loader = some ⟨0, 0, [], 0, []⟩
    ∧ (let s := { loading with loader := some ⟨5, 5, [], 0, [[⟨.write, 0xc0, 1, [], .loadWrite⟩]]⟩ }
      isGranted .loader (passTurn s) = true)
    ∧ isGranted .loader (passTurn atWork) = false := by decide +kernel

/-! ### Hypotheses met: the clock -/

theorem test_met_deadlines : recording.part = .running ∧ contextAt recording 0 = some context0
    ∧ context0.state = .opened 100 ∧ latchAt latched 0 = some latch0
    ∧ contextAt (putContext 47 (some context0) atWork) 47 = some context0
    ∧ latchAt (putLatch 47 (some latch0) atWork) 47 = some latch0 := by decide +kernel

def claiming (s : State) : State := { s with deposit := { s.deposit with claims := [⟨0, 5⟩] } }

theorem test_met_timeout_claim : isGranted .deposit (passTurn (claiming recording)) = true
    ∧ (claiming recording).deposit.claims = ⟨0, 5⟩ :: []
    ∧ (slotAt (claiming recording) 5).state = .recording ∧ (slotAt (claiming recording) 5).context = some 0
    ∧ contextAt (claiming recording) 0 = some context0
    ∧ isGranted .deposit (passTurn (claiming atWork)) = true
    ∧ ¬ ((slotAt (claiming atWork) 5).state = .recording ∧ (slotAt (claiming atWork) 5).context = some 0) := by
  decide +kernel

/-- A sweep of day 7 standing at a slot. -/
def sweeping (n : Nat) (s : State) : State := { s with sweep := ⟨true, .visiting, 7, n, 0, 0, 0⟩ }

theorem test_met_visit : isGranted .sweep (passTurn (sweeping 5 atWork)) = true
    ∧ isGranted .sweep (passTurn (sweeping 65534 atWork)) = true ∧ (sweeping 65534 atWork).sweep.cursor = 65534
    ∧ isDue 7 (slotAt (sweeping 5 (slotted { newSlot with expiry := .on 7 })) 5) = true
    ∧ isDue 7 (slotAt (sweeping 5 (slotted { newSlot with expiry := .on 8 })) 5) = false
    ∧ (let s := sweeping 5 { broadcasting with slots := [(5, { newSlot with expiry := .on 7 })] }
      isGranted .sweep (passTurn s) = true ∧ isDue 7 (slotAt s 5) = true ∧ pinCount s 5 ≠ 0) := by decide +kernel

/-- Slot 65,535 with another record, a sweep of day 7 standing at it. -/
def lastVisit (r : SlotRec) : State := sweeping 65535 { atWork with slots := [(65535, r)] }

theorem test_met_last_visit :
    (∀ s ∈ [lastVisit { newSlot with expiry := .on 7 }, lastVisit { newSlot with expiry := .on 8 }],
      isGranted .sweep (passTurn s) = true ∧ s.sweep.cursor = 65535 ∧ pinCount s 65535 = 0)
    ∧ isDue 7 (slotAt (lastVisit { newSlot with expiry := .on 7 }) 65535) = true
    ∧ isDue 7 (slotAt (lastVisit { newSlot with expiry := .on 8 }) 65535) = false
    ∧ (let s := putBroadcast 15 ⟨true, true, 65535, 1, true, some 6, [4]⟩ (lastVisit { newSlot with expiry := .on 7 })
      isGranted .sweep (passTurn s) = true ∧ pinCount s 65535 ≠ 0 ∧ endDayCount 7 s = 1)
    ∧ (let s := putBroadcast 15 ⟨true, true, 65535, 1, true, some 7, [4]⟩ (lastVisit { newSlot with expiry := .on 7 })
      endDayCount 7 s = 0) := by decide +kernel

theorem test_met_last_visit_sets : ∀ n, (broadcastAt (sweeping 65535 broadcasting) n).pending.Nodup :=
  test_met_withdraw.2.2

/-- The last visit ends a broadcast whose end day is past, and then the sweep (R81, R102). -/
theorem test_last_visit_runs : leaves .sweepVisit
    (putBroadcast 15 ⟨true, true, 5, 1, true, some 6, [4]⟩ (lastVisit { newSlot with expiry := .on 7 }))
    (fun t => !t.sweep.active && (slotAt t 65535).state == .expired && !(broadcastAt t 15).live
      && t.reports.held.map (·.body) == [.broadcastEnded 16 .endDay 1, .sweepDone 1 0 1]) = true := by decide +kernel

theorem test_met_seconds : ∀ c ∈ [(⟨9, 58, 1439, 65535, true⟩ : Calendar), ⟨9, 59, 1438, 0, true⟩, ⟨9, 59, 1439, 65534, true⟩,
    ⟨9, 59, 1439, 65535, true⟩], c.second < 60 ∧ c.minute < 1440 ∧ c.day ≤ 65535 := by decide

theorem test_met_tick : State.reset.part = .reset ∧ atWork.part ≠ .reset := by decide

/-! ### Hypotheses met: the lamp links -/

/-- Shelf entry 95 ONLINE with its image to be sent. -/
def onlineShelf : Shelf := { Shelf.empty with configured := true, link := .online }

def planted (sh : Shelf) (a : Activity) : State :=
  setActivity .a a (updateShelf 95 (fun _ => sh) atWork)

def exchange (kind : ExchangeKind) (orphaned : Bool) (timer : ReplyTimer) : Exchange :=
  ⟨kind, 95, 4, some Image.dark, [], timer, orphaned⟩

theorem test_met_choice_of_frame : atWork.part = .running
    ∧ (linkState (planted onlineShelf .idle).lamps .a).activity = .idle
    ∧ (linkState (planted onlineShelf .idle).lamps .a).cadenceDue = false
    ∧ nextDirty (planted onlineShelf .idle).lamps .a = some 95
    ∧ (linkState { (planted onlineShelf .idle).lamps with linkA := ⟨[], 95, .idle, true⟩ } .a).cadenceDue = true
    ∧ (let s := planted { onlineShelf with link := .probing, probeAt := some 0 } .idle
      nextDirty s.lamps .a = none ∧ (shelfAt s (entryOf .a 95)).probeAt = some 0
        ∧ ∀ b : Fin 95, (shelfAt s (entryOf .a b)).probeAt = none)
    ∧ (linkState (planted onlineShelf (.cadence [])).lamps .a).activity ≠ .idle := by decide +kernel

theorem test_met_frames : (shelfAt (planted { onlineShelf with probeAt := some 3 } .idle) 95).probeAt = some 3
    ∧ (linkState (planted onlineShelf (.cadence [])).lamps .a).activity = .cadence []
    ∧ (linkState (planted onlineShelf (.exchange (exchange .probe false .sending))).lamps .a).activity
      = .exchange (exchange .probe false .sending)
    ∧ (linkState (planted onlineShelf (.exchange (exchange .probe false (.waiting 9)))).lamps .a).activity
      = .exchange (exchange .probe false (.waiting 9)) := by decide +kernel

/-- A reply of shelf 95 that echoes sequence 4 with a dark image. -/
def goodWords : List FrameWord := replyFrame (ShelfUnit.powerUp 95 0 false) 4

theorem test_met_reply : readReply (framed (frameBits goodWords)) = some ⟨95, 4, false, 0, checksum Image.dark⟩
    ∧ (let s := planted { onlineShelf with link := .lost } (.exchange (exchange .probe false (.waiting 9)))
      s.part = .running ∧ (shelfAt s (entryOf .a 95)).link ≠ .online)
    ∧ (let s := planted onlineShelf (.exchange (exchange .lampSet false (.waiting 9)))
      (shelfAt s (entryOf .a 95)).link = .online
        ∧ (linkState s.lamps .a).activity = .exchange (exchange .lampSet false (.waiting 9))) := by decide +kernel

/-- Shelf 95 with a reply awaited. -/
def replying (sh : Shelf) (kind : ExchangeKind) (orphaned : Bool) (timer : ReplyTimer) : State :=
  planted sh (.exchange (exchange kind orphaned timer))

/-- Replies of another address, another sequence, and an image with one lamp STEADY. -/
def otherAddress : List FrameWord := replyFrame (ShelfUnit.powerUp 94 0 false) 4
def otherSequence : List FrameWord := replyFrame (ShelfUnit.powerUp 95 0 false) 5
def otherImage : List FrameWord := replyFrame ⟨95, Image.dark.setIfInBounds 47 .steady, 0, 0, true⟩ 4

theorem test_met_other_replies : readReply (framed []) = none ∧ readReply (framed (frameBits (goodWords.set 6 1))) = none
    ∧ framed ((frameBits goodWords).take 127) = [] ∧ readReply (framed ((frameBits goodWords).take 112)) = none
    ∧ (readReply (framed (frameBits otherAddress))).map (·.addr) = some 94
    ∧ (readReply (framed (frameBits otherSequence))).map (·.echo) = some 5
    ∧ (readReply (framed (frameBits otherImage))).map (fun r => (r.addr, r.echo, r.checksum)) = some (95, 4, 48) ∧ checksum Image.dark = 0
    ∧ (linkState (replying onlineShelf .lampSet false (.suspended 3)).lamps .a).activity
      = .exchange (exchange .lampSet false (.suspended 3))
    ∧ ReplyTimer.suspended 3 ≠ .sending ∧ ReplyTimer.waiting 9 ≠ .sending
    ∧ (linkState atWork.lamps .a).activity = .idle
    ∧ (∀ sh ∈ [onlineShelf, { onlineShelf with haltOnCheck := true }, { onlineShelf with misses := 2 },
        { onlineShelf with lastSent := some Image.dark }],
      shelfAt (replying sh .probe true (.waiting 9)) (entryOf .a 95) = sh) := by decide +kernel

/-- A reply that does not answer resumes the timeout it suspended (R153, log 34); a mismatch forgets the image (R155). -/
theorem test_other_replies_run :
    leaves (.replyReceived .a (frameBits otherSequence)) (replying onlineShelf .lampSet false (.suspended 3))
      (fun t => match t.lamps.linkA.activity with | .exchange x => x.timer == .waiting 3 | _ => false) = true
    ∧ leaves (.replyReceived .a (frameBits otherImage))
      (replying { onlineShelf with lastSent := some Image.dark } .probe false (.waiting 9))
      (fun t => t.reports.held.map (·.body) == [.shelfImageMismatch true .probe 0 48]
        && (shelfAt t 95).lastSent.isNone) = true := by decide +kernel

/-- The lamps of the watch mask whose fault flag is that of the watch sense, in a reply with the flags of lamps 0 and 47. -/
def watched (sh : Shelf) : List Nat :=
  (List.range 48).filter fun k => sh.watchMask.getLsbD k && (0x800000000001 : BitVec 48).getLsbD k == sh.watchFault

theorem test_met_watch : watched onlineShelf = []
    ∧ watched { onlineShelf with watchMask := 0x800000000001, watchFault := true } = 0 :: [47]
    ∧ onlineShelf.watchMatch = false ∧ { onlineShelf with watchMatch := true }.watchMatch = true
    ∧ onlineShelf.haltOnMatch = false ∧ { onlineShelf with haltOnMatch := true }.haltOnMatch = true := by decide +kernel

theorem test_met_miss : (exchange .probe false (.waiting 9)).timer = .waiting 9
    ∧ (exchange .probe false (.waiting 9)).orphaned = false ∧ (exchange .probe true (.waiting 9)).orphaned = true
    ∧ (exchange .probe true (.waiting 9)).addr < 96
    ∧ (linkState (planted onlineShelf (.exchange (exchange .probe true (.waiting 9)))).lamps .a).activity
      = .exchange (exchange .probe true (.waiting 9)) := by decide +kernel

/-! ### Hypotheses met: arrivals that wait, and the turn -/

/-- An idle link with nothing to send, no probe moment being reached (R151). -/
theorem test_met_idle_link : (linkState atWork.lamps .a).activity = .idle
    ∧ nextDirty (planted { onlineShelf with link := .probing, probeAt := some 1 } .idle).lamps .a = none
    ∧ (shelfAt (planted { onlineShelf with link := .probing, probeAt := some 1 } .idle) (entryOf .a 95)).probeAt = some 1
    ∧ (∀ a : Fin 95, (shelfAt (planted { onlineShelf with probeAt := some 1 } .idle) (entryOf .a a)).probeAt = none)
    ∧ chooseLink .a (planted { onlineShelf with link := .probing, probeAt := some 1 } .idle)
      = planted { onlineShelf with link := .probing, probeAt := some 1 } .idle := by decide +kernel

/-- The part at rest with one more arrival. -/
def waiting (t : HostTxn) (s : State) : State :=
  calm { s with transit := { s.transit with arrivals := s.transit.arrivals ++ [t] } }

/-- A queue with so many entries that only drain. -/
def filled (n : Nat) : State :=
  { atWork with transit := { atWork.transit with queue := List.replicate n ⟨.read, 0, 1, [], .drained⟩ } }

theorem test_met_waits :
    (waiting (.read ⟨0, 1⟩) { State.reset with part := .loading }).part = .loading
    ∧ (waiting (.read ⟨0, 1⟩) { atWork with transit := { atWork.transit with order := List.replicate 64 none } }).transit.order.length
      = 64
    ∧ roomAsked (waiting (.read ⟨0, 1⟩) (filled 32)) (.read ⟨0, 1⟩) = some 1
    ∧ isGranted .upstream (waiting (.read ⟨0, 1⟩) (filled 32)) = false
    ∧ roomAsked (waiting (.write (full 0x100098 2)) (filled 30)) (.write (full 0x100098 2)) = some 3
    ∧ isGranted .upstream (waiting (.write (full 0x100098 2)) (filled 30)) = false
    ∧ isGranted .upstream (waiting (.write (full 0x100098 2)) (filled 29)) = true := by decide +kernel

/-- A waiting head that can be taken: room is asked and granted, or none is asked. -/
theorem test_met_head_taken :
    (waiting (.read ⟨0, 1⟩) (filled 31)).transit.arrivals = [.read ⟨0, 1⟩]
    ∧ (waiting (.read ⟨0, 1⟩) (filled 31)).part ≠ .loading
    ∧ (waiting (.read ⟨0, 1⟩) (filled 31)).transit.order.length < 64
    ∧ isGranted .upstream (waiting (.read ⟨0, 1⟩) (filled 31)) = true
    ∧ roomAsked (waiting (.write (full 0x100000000 1)) (filled 32)) (.write (full 0x100000000 1)) = none := by
  decide +kernel

/-- An answer frees a place, and the transaction that waited is taken (R176). -/
theorem test_waiting_head_taken : leaves (.memoryAnswer ⟨false, []⟩) (waiting (.read ⟨0, 1⟩) (filled 32))
    (fun t => t.transit.arrivals.isEmpty && t.transit.queue.length == 32 && t.transit.order == [none]) = true := by
  decide +kernel

/-- Under RESET the turn is the upstream port's after a grant as before (R175). -/
theorem test_reset_turn : leaves (.plainTransaction (.read ⟨0, 1⟩)) State.reset
    (fun t => t.transit.queue.length == 1 && t.transit.turn == .upstream) = true := by decide +kernel

/-- A timeout claim waits, and room for one of its two writes is left. -/
def owing (n : Nat) : State := { filled n with deposit := { atWork.deposit with claims := [⟨0, 5⟩] } }

theorem test_met_turn : (∀ q ∈ [Requester.upstream, .deposit, .sweep, .control, .loader], request atWork q = none)
    ∧ request (owing 31) .upstream = none ∧ request (owing 31) (Nat.repeat nextRequester 1 .upstream) = some 2
    ∧ (passTurn (owing 31)).transit.turn = .deposit ∧ isGranted .deposit (passTurn (owing 31)) = false
    ∧ isGranted .deposit (passTurn (owing 30)) = true
    ∧ (∀ g ∈ regions, g.kind = .report → g = ⟨.report, 0x800000, 0x10000⟩) ∧ regionBase atWork .report = 0x800000 := by
  decide +kernel

/-! ### Hypotheses met: part states -/

/-- A load whose reads have all been answered. -/
def loaded : State := { loading with loader := some ⟨loadReads, loadReads, [], 9, []⟩ }

theorem test_met_load : loadComplete loading = false ∧ loadComplete loaded = true
    ∧ loaded.loader = some ⟨loadReads, loadReads, [], 9, []⟩
    ∧ (let s := { loading with transit := { loading.transit with queue := [⟨.read, 0, 16, [], .loadRead 0⟩] } }
      s.part = .loading ∧ s.transit.queue = ⟨.read, 0, 16, [], .loadRead 0⟩ :: [] ∧ s.reports.base = none)
    ∧ (let s := { loading with reports := { loading.reports with base := some 0x800000 } }
      s.reports.base = some 0x800000 ∧ unread s.reports + unwritten s.reports < 255) := by decide +kernel

/-- Reports still held at the end of LOADING are dropped: LOAD_DONE, or LOAD_FAILED, is the first one written (R188, R190,
log 44). -/
theorem test_held_dropped :
    leaves .loadDone { loaded with reports := { loaded.reports with held := [aReport], base := some 0x800000 } }
      (fun t => t.part == .running && t.reports.held.map (·.body) == [.loadDone 0 0 0]) = true
    ∧ leaves (.memoryAnswer ⟨false, []⟩) { loadAwaiting .drained (some (.version 2)) with
        reports := { loading.reports with held := [aReport], base := some 0x800000 } }
      (fun t => t.part == .failed && t.reports.held.map (·.body) == [.loadFailed (.version 2)]) = true := by
  decide +kernel

theorem test_met_settle : (loadAwaiting .drained (some (.version 2))).failing = some (.version 2)
    ∧ (∃ x ∈ (loadAwaiting .drained (some (.version 2))).transit.queue, x.origin = .drained)
    ∧ (let s := { loading with failing := some (.version 2), loader := none }
      (∀ x ∈ s.transit.queue, x.origin ≠ .drained) ∧ s.reports.base = none)
    ∧ (let s := { loading with failing := some (.version 2), loader := none
                               reports := { loading.reports with base := some 0x800000 } }
      (∀ x ∈ s.transit.queue, x.origin ≠ .drained) ∧ s.reports.base ≠ none)
    ∧ loading.failing = none := by decide +kernel

/-! ### Hypotheses met: the loader's judgements -/

/-- An entry of the Region Map. -/
def mapEntry (base size kind : Nat) : List Byte := leBytes 8 base ++ leBytes 6 size ++ leBytes 1 kind ++ zeros 1

/-- The five lines of step one: version, consumer index and twelve map entries. -/
def stepOne (version index : Nat) (entries : List (List Byte)) : List Byte :=
  leBytes 2 version ++ zeros 190 ++ leBytes 2 index ++ zeros 190 ++ fitBytes 256 entries.flatten

def goodMap : List (List Byte) :=
  [mapEntry 0x10000 0x80000 1, mapEntry 0x100000 0x200000 2, mapEntry 0x1000000 0x1000000 3, mapEntry 0x600000 0x100000 4,
    mapEntry 0x100000000 0x200000000 5, mapEntry 0x800000 0x10000 6]

/-- What the map's check answers for a map, the Control Area lying at 0. -/
def mapped (entries : List (List Byte)) : Option (Option Nat × MapCheck) :=
  mapFailure 0 (readMap ((stepOne 3 0 entries).drop 384))

/-- Each check of the map fails alone, at the first and at the last entries. -/
theorem test_met_map : mapped goodMap = none
    ∧ mapped (goodMap ++ List.replicate 5 (mapEntry 0 0 0) ++ [mapEntry 0 0 7]) = some (some 11, .kind)
    ∧ mapped (goodMap.set 3 (mapEntry 0x600001 0x100000 4)) = some (some 3, .align)
    ∧ mapped (goodMap.set 3 (mapEntry 0x600000 0 4)) = some (some 3, .align)
    ∧ mapped (goodMap.set 3 (mapEntry 0xfffff0000 0x20000 4)) = some (some 3, .bound)
    ∧ mapped (goodMap.set 0 (mapEntry 0x10000 0x90000 1)) = some (some 0, .size)
    ∧ mapped (goodMap.set 5 (mapEntry 0 0 0)) = some (none, .count)
    ∧ mapped (goodMap ++ [mapEntry 0x900000 0x10000 6]) = some (some 5, .count)
    ∧ mapped (goodMap.set 3 (mapEntry 0 0x10000 4)) = some (some 3, .overlap)
    ∧ mapped (goodMap.set 3 (mapEntry 0x1000000 0x10000 4)) = some (some 2, .overlap) := by decide +kernel

theorem test_met_step_one : loading.loader = some ⟨0, 0, [], 0, []⟩ ∧ fieldOf (stepOne 2 0 goodMap) 0 2 ≠ 3
    ∧ fieldOf (stepOne 3 256 goodMap) 0 2 = 3 ∧ fieldOf (stepOne 3 255 goodMap) 192 2 ≤ 255
    ∧ 255 < fieldOf (stepOne 3 256 goodMap) 192 2 := by decide +kernel

/-- The first step with its consumer index out of range: the map is held, the index loaded as 0, repaired, counted. The
header of zeros has values out of range and is counted too (R184, R188). -/
theorem test_step_one_runs :
    let t := loadStepOne (stepOne 3 256 goodMap) loading
    t.transit.regions.length = 6 ∧ (∀ g ∈ regions, g ∈ t.transit.regions) ∧ t.counts = ⟨2, 0, 0⟩
      ∧ t.loader.map (fun l => (l.consumer, l.writes.length)) = some (0, 1) := by decide +kernel

theorem test_met_tables : checkClass regions (zeros 6 ++ [1, 0, 5] ++ zeros 55) = none
    ∧ checkClass regions (zeros 64) = some .depositLength
    ∧ checkCalibration (zeros 16) = none ∧ checkCalibration [0, 0, 0, 4] = some .gain
    ∧ checkBreaks (zeros 128) = none ∧ checkBreaks (zeros 12 ++ [1]) = some .rangeGap
    ∧ checkSchedule (zeros 32) = none ∧ checkSchedule (zeros 4 ++ [1]) = some .windowRange
    ∧ checkBroadcast (zeros 32) = none ∧ checkBroadcast (zeros 6 ++ [2]) = some .endDay
    ∧ checkShelf (zeros 32) = none ∧ checkShelf (zeros 3 ++ [2]) = some .shelfFlag := by decide +kernel

/-- A mailbox record of capacity 1 and lamp position 0, ACTIVE. -/
def goodBox : List Byte := [1, 0, 1, 255] ++ zeros 60

theorem test_met_boxes : boxFaults regions goodBox = [] ∧ boxFaults regions (zeros 64) = [.capacity]
    ∧ FieldName.lamp ∉ boxFaults regions goodBox ∧ fieldOf goodBox 4 2 ≠ 65535
    ∧ holderAt (putHolder 0 (some 9) loading) (byteOf goodBox 4 * 48 + byteOf goodBox 5) ≠ none
    ∧ holderAt loading (byteOf goodBox 4 * 48 + byteOf goodBox 5) = none
    ∧ boxFaults regions ([3, 8, 0, 64, 192, 48, 0, 0, 0x40, 0x42, 0x0f, 0, 0, 0, 0xa0, 5] ++ (List.replicate 4 [0, 0, 0, 1]).flatten)
      = [.status, .cls, .capacity, .lamp, .schedule, .primary, .afterHours, .onBreak, .absence, .absenceUntil, .extension] := by
  decide +kernel

/-- A mailbox record with a bad capacity and a lamp position held already has two repair writes and is counted once
(log 19). -/
theorem test_box_repaired :
    let t := loadBox 3 (zeros 64) (putHolder 0 (some 9) loading)
    (boxAt t 3).status = .unassigned ∧ (boxAt t 3).capacity = 1 ∧ lampPosition (boxAt t 3) = none
      ∧ t.counts = ⟨0, 1, 0⟩ ∧ t.loader.map (·.writes.length) = some 2 := by decide +kernel

/-- Slot records set aside, found RECORDING, and entered as read; mailbox 3 is ACTIVE. -/
theorem test_met_slots :
    let s := { loading with boxes := [(3, activeBox)] }
    (∀ b ∈ [[3, 0, 7], [0, 32, 2], [3, 0, 2, 2], [3, 0, 2, 0, 4], [4, 0, 2]], slotBad s (fitBytes 32 b) = true)
    ∧ (∀ b ∈ [[3, 0, 1], [3, 0, 6, 1, 3], [4, 0, 0]], slotBad s (fitBytes 32 b) = false)
    ∧ (slotAt (loadSlot 65535 (fitBytes 32 [3, 0, 1]) s) 65535).verdict = .load := by decide +kernel

theorem test_met_prun : atWork.prun = true ∧ atWork.prun ≠ false ∧ atWork.part = .running
    ∧ State.reset.prun ≠ false ∧ State.reset.part ≠ .running
    ∧ atWork.control.header.dark = false
    ∧ { atWork.control.header with dark := true }.dark = true := by decide

/-! ### Commands run -/

/-- A host write of RECORDING claims context 0, and is forwarded with its stamp write behind it (R10, R21, R173). -/
theorem test_claim_runs : leaves (.slotDirWrite ⟨0x1000a0, 1, lanes 1 2 8⟩) freeSlot
    (fun t => (slotAt t 5).state == .recording && (slotAt t 5).context == some 0
      && t.transit.queue.map (fun e => (e.addr, e.words)) == [(0x1000a0, 1), (0x1000a8, 2)]
      && (boxAt t 3).nonFree == 2 && t.transit.order == [none]) = true := by decide +kernel

/-- A host read of the ALIAS region plays the PRIMARY greeting from its first block (R115, R116, R120). -/
theorem test_play_runs : leaves (.aliasReadPositionZero start1) atWork
    (fun t => t.transit.queue.map (fun e => (e.addr, e.words)) == [(0x600000, 16)]
      && (latchAt t 0).map (·.composed) == some 2) = true := by decide +kernel

/-- SWEEP_NOW starts a sweep and answers ACCEPTED with the command's tag (R98, R185). -/
theorem test_sweep_now_runs : leaves (.sweepNow (order 2 [])) atWork
    (fun t => t.sweep.active && t.reports.held.map (·.body) == [.commandDone 2 .accepted 0]
      && t.reports.held.map (·.tag) == [some 9]) = true := by decide +kernel

/-- A link that is free sends the LAMP_SET of a dirty ONLINE shelf as the part comes to rest (R137, R151). -/
theorem test_lamp_set_sent : leaves .cadenceTick (planted onlineShelf (.cadence []))
    (fun t => t.lamps.phase == 1 && t.lamps.linkA.cadenceDue) = true
    ∧ leaves (.frameEnd .a) (planted onlineShelf (.cadence []))
      (fun t => match t.lamps.linkA.activity with | .exchange x => x.addr == 95 && x.sequence == 1 | _ => false) = true := by
  decide +kernel

/-- RESET released begins a load whose first read, once granted, is line 0 of the Control Area (R187, R188). -/
theorem test_load_begins : leaves (.resetReleased 1) State.reset
    (fun t => t.part == .loading && leaves .loaderRoomGrant t
      (fun u => u.transit.queue.map (fun e => (e.addr, e.words)) == [(0x100000000, 16)])) = true := by decide +kernel

end Sys2Proof.Tests
end

namespace Sys2Proof.Machine

/-! ### A command of the Control Area taken at once -/

/-- The command record lies in the line at 0080h alone (section 11.4). -/
theorem line_of_command {line : Nat} (h : AreaRecord.command ∈ lineRecords line) : line = 0x80 := by
  by_cases hline : line = 0x80
  · exact hline
  · unfold lineRecords at h
    rw [if_neg hline] at h
    (repeat' split at h) <;> simp at h

/-- A write that touches the command record lies in its line, and behind that record it touches the consumer index or
none (R182). -/
theorem touchedRecords_of_command {offset words : Nat} (h : AreaRecord.command ∈ touchedRecords offset words) :
    offset / 128 = 1 ∧ touchedRecords offset words
      = .command :: (if AreaRecord.consumer ∈ touchedRecords offset words then [.consumer] else []) := by
  have hline : offset / 128 * 128 = 0x80 := line_of_command (List.mem_filter.mp h).1
  refine ⟨by omega, ?_⟩
  have hrecords : lineRecords (offset / 128 * 128) = [.command, .consumer] := by rw [hline]; rfl
  obtain ⟨-, hcommand⟩ := List.mem_filter.mp h
  rw [touchedRecords, hrecords, List.filter_cons, if_pos hcommand, List.filter_cons, List.filter_nil]
  split <;> simp

/-- A command that a write carries stands in a touched command record, and is read from that record's bytes (R182). -/
theorem writtenCommand_eq_some {line : List Lane} {records : List AreaRecord} {c : Command}
    (h : writtenCommand line records = some c) :
    AreaRecord.command ∈ records ∧ readCommand (laneData (areaLanes line .command)) = c := by
  unfold writtenCommand at h
  split at h
  · next hwhole => exact ⟨hwhole.1, Option.some.inj h⟩
  · cases h

/-- A write that carries a command other than RESTART is forwarded, then its command and the record behind it take
effect, and the part comes to rest (R182, R185). -/
theorem hostArrives_command {offset : Nat} {c : Command} {w : HostWrite} {s : State}
    (h : CommandWritten offset c w s) (hcode : c.code ≠ 1) :
    hostArrives (.write w) s =
      calm (afterCommand offset w (takeCommand c (areaForwarded offset w (accepted (.write w) s)))) := by
  obtain ⟨hready, harea, hpass, hwritten⟩ := h
  obtain ⟨htouched, hread⟩ := writtenCommand_eq_some hwritten
  obtain ⟨hline, hrecords⟩ := touchedRecords_of_command htouched
  have hlatch : clearsLatch offset (lineLanes w) = false := by simp [clearsLatch, hline]
  have hrestart : writesRestart (lineLanes w) (touchedRecords offset w.words.toNat) = false := by
    simp [writesRestart, hwritten, hcode]
  have heffects : ∀ u, takeRecords (lineLanes w) (touchedRecords offset w.words.toNat) u
      = afterCommand offset w (takeCommand c u) := by
    intro u
    rw [hrecords, takeRecords, takeRecord, hread]
    unfold afterCommand
    split <;> rfl
  rw [hostArrives_ready hready, takeTxn_areaWrite harea.accepted]
  unfold writeArea
  simp only [failedRecords_accepted, hpass, acceptArea, hlatch, hrestart, Bool.false_eq_true, if_false, heffects]
  rfl

/-- BROADCAST_POST is the command of code 4 (section 11.4). -/
theorem exec_broadcastPost {offset : Nat} {c : Command} {w : HostWrite} {s : State}
    (h : CommandWritten offset c w s) (hcode : c.code = 4) :
    exec (.broadcastPost w) s =
      .next (calm (afterCommand offset w (commandPost c (fieldOf c.argument 0 4) (commandTaken offset c w s)))) := by
  have harrives := hostArrives_command h (by omega)
  unfold takeCommand at harrives
  simp only [hcode] at harrives
  exact congrArg Host.Outcome.next harrives

/-- BROADCAST_WITHDRAW is the command of code 5 (section 11.4). -/
theorem exec_broadcastWithdraw {offset : Nat} {c : Command} {w : HostWrite} {s : State}
    (h : CommandWritten offset c w s) (hcode : c.code = 5) :
    exec (.broadcastWithdraw w) s =
      .next (calm (afterCommand offset w (commandWithdraw c (fieldOf c.argument 0 4) (commandTaken offset c w s)))) := by
  have harrives := hostArrives_command h (by omega)
  unfold takeCommand at harrives
  simp only [hcode] at harrives
  exact congrArg Host.Outcome.next harrives

/-- Forwarding the write and noting its command leave the directories, the broadcasts and the classes. -/
@[simp] theorem commandTaken_keeps (offset : Nat) (c : Command) (w : HostWrite) (s : State) :
    (commandTaken offset c w s).slots = s.slots ∧ (commandTaken offset c w s).boxes = s.boxes
      ∧ (commandTaken offset c w s).broadcasts = s.broadcasts
      ∧ (commandTaken offset c w s).control.classes = s.control.classes := by
  simp [commandTaken, areaForwarded]

@[simp] theorem slotAt_commandTaken (offset : Nat) (c : Command) (w : HostWrite) (s : State) (n : Nat) :
    slotAt (commandTaken offset c w s) n = slotAt s n := slotAt_congr (by simp) n

@[simp] theorem boxAt_commandTaken (offset : Nat) (c : Command) (w : HostWrite) (s : State) (m : Nat) :
    boxAt (commandTaken offset c w s) m = boxAt s m := boxAt_congr (by simp) m

@[simp] theorem broadcastAt_commandTaken (offset : Nat) (c : Command) (w : HostWrite) (s : State) (n : Nat) :
    broadcastAt (commandTaken offset c w s) n = broadcastAt s n := broadcastAt_congr (by simp) n

/-- The flag and mode that a record derives depend on the classes alone. -/
theorem derived_eq_afresh {s u : State} (h : u.control.classes = s.control.classes) (b : MailboxRec) :
    derived u b = afresh s b := by
  unfold derived afresh isFull classAt
  rw [h]

/-! ### Entries of canonical sparse data -/

/-- The entries of canonical sparse data are the keys that hold something, with what they hold. -/
theorem mem_iff_sparseGet {α : Type} [DecidableEq α] {d : α} {m : Sparse α} (h : sparseWf d m = true) {k : Nat}
    {v : α} : (k, v) ∈ m ↔ sparseGet d m k = v ∧ v ≠ d := by
  induction m with
  | nil => simpa [sparseGet] using fun hd : d = v => hd.symm
  | cons e m ih =>
    obtain ⟨j, u⟩ := e
    obtain ⟨hu, hrise, hrest⟩ := sparseWf_cons.mp h
    by_cases hk : k = j
    · subst hk
      have hfresh : (k, v) ∉ m := fun hv => Nat.lt_irrefl k (hrise (k, v) hv)
      simp only [List.mem_cons, Prod.mk.injEq, true_and, hfresh, or_false, sparseGet, if_true]
      constructor
      · rintro rfl; exact ⟨rfl, hu⟩
      · exact fun hv => hv.1.symm
    · simp [sparseGet, hk, ih hrest]

/-- Canonical sparse data names each key once. -/
theorem nodup_keys {α : Type} [DecidableEq α] {d : α} {m : Sparse α} (h : sparseWf d m = true) :
    (m.map (·.1)).Nodup := by
  induction m with
  | nil => simp
  | cons e m ih =>
    obtain ⟨-, hrise, hrest⟩ := sparseWf_cons.mp h
    rw [List.map_cons, List.nodup_cons]
    refine ⟨fun hmem => ?_, ih hrest⟩
    obtain ⟨x, hx, hkey⟩ := List.mem_map.mp hmem
    exact Nat.ne_of_gt (hrise x hx) hkey

/-- A POST's members are each named once (R75). -/
theorem postMembers_nodup {s : State} (h : DirectoriesCanonical s) (mask : BitVec 8) (owner : Nat) :
    (postMembers s mask owner).Nodup := by
  obtain ⟨-, hboxes, -⟩ := h
  exact nodup_keys (sparseWf_filter _ hboxes)

/-- A POST's members are the ACTIVE mailboxes of its classes but for the source's owner (R75): a mailbox that is not
listed is UNASSIGNED. -/
theorem mem_postMembers {s : State} (h : DirectoriesCanonical s) {mask : BitVec 8} {owner m : Nat} :
    m ∈ postMembers s mask owner ↔
      (boxAt s m).status = .active ∧ mask.getLsbD (boxAt s m).cls = true ∧ m ≠ owner := by
  obtain ⟨-, hboxes, -⟩ := h
  have hentry : ∀ b, (m, b) ∈ s.boxes ↔ boxAt s m = b ∧ b ≠ MailboxRec.empty := fun _ => mem_iff_sparseGet hboxes
  simp only [postMembers, List.mem_map, List.mem_filter, Bool.and_eq_true, beq_iff_eq, bne_iff_ne]
  constructor
  · rintro ⟨⟨k, b⟩, ⟨hlisted, ⟨hactive, hmask⟩, howner⟩, rfl⟩
    rw [((hentry b).mp hlisted).1]
    exact ⟨hactive, hmask, howner⟩
  · rintro ⟨hactive, hmask, howner⟩
    have hnonempty : boxAt s m ≠ MailboxRec.empty := by
      intro hempty
      rw [hempty] at hactive
      cases hactive
    exact ⟨(m, boxAt s m), ⟨(hentry _).mpr ⟨rfl, hnonempty⟩, ⟨hactive, hmask⟩, howner⟩, rfl⟩

/-! ### Posting and ending a broadcast -/

/-- Mailboxes named once each and updated in order: each named one is updated once, no other changes. -/
theorem boxAt_forEach_updateBox (f : MailboxRec → MailboxRec) {l : List Nat} (hl : l.Nodup) (s : State) (i : Nat) :
    boxAt (forEach (fun m => updateBox m f) l s) i
      = if i ∈ l then derived s (f (boxAt s i)) else boxAt s i := by
  induction l generalizing s with
  | nil => simp [forEach]
  | cons m l ih =>
    obtain ⟨hm, hl⟩ := List.nodup_cons.mp hl
    rw [forEach, ih hl, boxAt_updateBox, derived_congr (s := s) (by simp)]
    by_cases hi : i = m
    · subst hi; simp [hm]
    · simp [hi]

/-- A report that names no mailbox depends on the part state, the reports and the calendar alone (R192). -/
theorem makeReport_reports_congr {s u : State} (hpart : u.part = s.part) (hreports : u.reports = s.reports)
    (hcalendar : u.calendar = s.calendar) (body : ReportBody) (slot shelf : Option Nat) (tag : Option (BitVec 32)) :
    (makeReport body none slot shelf tag u).reports = (makeReport body none slot shelf tag s).reports := by
  have hnow : reportNow body none slot shelf tag u = reportNow body none slot shelf tag s := by
    simp [reportNow, readingOf, hcalendar]
  unfold makeReport
  rw [hpart, hnow, hreports]
  split
  · rfl
  · exact hreports

/-- The members left are counted out of an ended broadcast (R79). -/
theorem boxAt_endBroadcast (n : Nat) (reason : EndReason) (mailbox : Option Nat) {s : State}
    (hnodup : (broadcastAt s n).pending.Nodup) (i : Nat) :
    boxAt (endBroadcast n reason mailbox s) i
      = if i ∈ (broadcastAt s n).pending then derived s (uncountBroadcast (broadcastAt s n).urgent (boxAt s i))
        else boxAt s i := by
  rw [← boxAt_forEach_updateBox _ hnodup]
  exact boxAt_congr (by simp [endBroadcast]) i

/-- An ended broadcast is IDLE with an empty set; no other entry changes (R79). -/
theorem broadcastAt_endBroadcast {n : Nat} (hn : n < 16) (reason : EndReason) (mailbox : Option Nat) (s : State)
    (i : Nat) :
    broadcastAt (endBroadcast n reason mailbox s) i
      = if i = n then { broadcastAt s n with live := false, pending := [] } else broadcastAt s i := by
  have htable : (endBroadcast n reason mailbox s).broadcasts
      = (putBroadcast n { broadcastAt s n with live := false, pending := [] } s).broadcasts := by
    simp [endBroadcast, forEach_updateBox_keeps fun _ => uncountBroadcast (broadcastAt s n).urgent]
  rw [broadcastAt_congr htable, broadcastAt_putBroadcast]
  simp [hn]

/-- The one report of an ending that no mailbox brought about (R79). -/
theorem endBroadcast_reports (n : Nat) (reason : EndReason) (s : State) :
    (endBroadcast n reason none s).reports
      = (makeReport (.broadcastEnded (n + 1) reason (broadcastAt s n).pending.length) none
          (some (broadcastAt s n).source) none none s).reports := by
  have hkeeps := forEach_updateBox_keeps (fun _ => uncountBroadcast (broadcastAt s n).urgent) (broadcastAt s n).pending s
  exact makeReport_reports_congr (by simp [hkeeps]) (by simp [hkeeps]) (by simp [hkeeps]) _ _ _ _

/-- An ending changes mailboxes, broadcasts, lamps and reports alone. -/
theorem endBroadcast_frame (n : Nat) (reason : EndReason) (mailbox : Option Nat) (s : State) :
    endBroadcast n reason mailbox s = { s with
      boxes := (endBroadcast n reason mailbox s).boxes, broadcasts := (endBroadcast n reason mailbox s).broadcasts
      lamps := (endBroadcast n reason mailbox s).lamps, reports := (endBroadcast n reason mailbox s).reports } := by
  apply State.ext <;> simp

/-- The entry of a POST as its set is formed (R75). -/
def formSet (n : Nat) (members : List Nat) (s : State) : State :=
  putBroadcast n { broadcastAt s n with live := true, pending := members } s

theorem broadcastAt_formSet {n : Nat} (hn : n < 16) (members : List Nat) (s : State) (i : Nat) :
    broadcastAt (formSet n members s) i
      = if i = n then { broadcastAt s n with live := true, pending := members } else broadcastAt s i := by
  simp [formSet, hn]

/-- A set formed empty ends at once, all having heard (R75, R79). -/
theorem postBroadcast_nil (n : Nat) (s : State) :
    postBroadcast n [] s = endBroadcast n .allHeard none (formSet n [] s) := rfl

/-- Each member of a set formed with members counts the broadcast (R75). -/
theorem postBroadcast_of_ne_nil {members : List Nat} (h : members ≠ []) (n : Nat) (s : State) :
    postBroadcast n members s
      = forEach (fun m => updateBox m (countBroadcast (broadcastAt s n).urgent)) members (formSet n members s) := by
  simp only [postBroadcast, if_neg h, formSet]

/-- The members of a POST count its broadcast, and no other mailbox changes (R75). -/
theorem boxAt_postBroadcast {n : Nat} (hn : n < 16) {members : List Nat} (hnodup : members.Nodup) (s : State) (i : Nat) :
    boxAt (postBroadcast n members s) i
      = if i ∈ members then derived s (countBroadcast (broadcastAt s n).urgent (boxAt s i)) else boxAt s i := by
  by_cases h : members = []
  · subst h
    have hempty : (broadcastAt (formSet n [] s) n).pending = [] := by simp [broadcastAt_formSet hn]
    rw [postBroadcast_nil, boxAt_endBroadcast n .allHeard none (by simp [hempty])]
    simp only [hempty, List.not_mem_nil, if_false]
    rfl
  · rw [postBroadcast_of_ne_nil h, boxAt_forEach_updateBox _ hnodup]
    rfl

/-- A posted entry is LIVE with its members, or IDLE when it has none; no other entry changes (R75, R79). -/
theorem broadcastAt_postBroadcast {n : Nat} (hn : n < 16) (members : List Nat) (s : State) (i : Nat) :
    broadcastAt (postBroadcast n members s) i
      = if i = n then { broadcastAt s n with live := decide (members ≠ []), pending := members }
        else broadcastAt s i := by
  by_cases h : members = []
  · subst h
    rw [postBroadcast_nil, broadcastAt_endBroadcast hn, broadcastAt_formSet hn, broadcastAt_formSet hn]
    split <;> simp
  · rw [postBroadcast_of_ne_nil h, broadcastAt_congr (s := formSet n members s)
      (by simp [forEach_updateBox_keeps fun _ => countBroadcast (broadcastAt s n).urgent]), broadcastAt_formSet hn]
    simp [h]

/-- A POST itself makes a report only when its set is formed empty (R75, R79). -/
theorem postBroadcast_reports {n : Nat} (hn : n < 16) (members : List Nat) (s : State) :
    (postBroadcast n members s).reports
      = if members = [] then
          (makeReport (.broadcastEnded (n + 1) .allHeard 0) none (some (broadcastAt s n).source) none none s).reports
        else s.reports := by
  by_cases h : members = []
  · subst h
    rw [postBroadcast_nil, endBroadcast_reports, broadcastAt_formSet hn, if_pos rfl, if_pos rfl]
    exact makeReport_reports_congr (s := s) (u := formSet n [] s) rfl rfl rfl _ _ _ _
  · rw [postBroadcast_of_ne_nil h, if_neg h]
    simp [forEach_updateBox_keeps fun _ => countBroadcast (broadcastAt s n).urgent, formSet]

/-- Of the lamps' half a POST changes only what follows the members' modes. -/
theorem OnlyImagesChange.postBroadcast (n : Nat) (members : List Nat) (s : State) :
    OnlyImagesChange s (postBroadcast n members s) := by
  have hform : OnlyImagesChange s (formSet n members s) := .of_lamps rfl
  by_cases h : members = []
  · subst h
    exact .trans hform (.endBroadcast _ _ _ _)
  · rw [postBroadcast_of_ne_nil h]
    exact .trans hform (.forEach _ (fun m s => .updateBox m _ s) _ _)

/-- A POST changes mailboxes, broadcasts, lamps and reports alone. -/
theorem postBroadcast_frame (n : Nat) (members : List Nat) (s : State) :
    postBroadcast n members s = { s with
      boxes := (postBroadcast n members s).boxes, broadcasts := (postBroadcast n members s).broadcasts
      lamps := (postBroadcast n members s).lamps, reports := (postBroadcast n members s).reports } := by
  apply State.ext <;> simp

/-! ### The checks of a POST (R74) -/

section
variable {s : State} {number : Nat}

theorem postRefusal_badArgument (h : number < 1 ∨ 16 < number ∨ (broadcastAt s (number - 1)).present = false) :
    postRefusal s number = some .badArgument := if_pos h

variable (hlow : 1 ≤ number) (hhigh : number ≤ 16) (hpresent : (broadcastAt s (number - 1)).present = true)
include hlow hhigh hpresent

/-- The number of a present entry is no bad argument. -/
theorem post_argument_good :
    ¬ (number < 1 ∨ 16 < number ∨ (broadcastAt s (number - 1)).present = false) := by
  simp [hpresent]; omega

theorem postRefusal_broadcastLive (hlive : (broadcastAt s (number - 1)).live = true) :
    postRefusal s number = some .broadcastLive := by
  rw [postRefusal, if_neg (post_argument_good hlow hhigh hpresent), if_pos hlive]

variable (hidle : (broadcastAt s (number - 1)).live = false)
include hidle

theorem postRefusal_sourceState (hsource : isKept (slotAt s (broadcastAt s (number - 1)).source).state = false) :
    postRefusal s number = some .sourceState := by
  rw [postRefusal, if_neg (post_argument_good hlow hhigh hpresent)]
  simp [hidle, hsource]

theorem postRefusal_none (hsource : isKept (slotAt s (broadcastAt s (number - 1)).source).state = true) :
    postRefusal s number = none := by
  rw [postRefusal, if_neg (post_argument_good hlow hhigh hpresent)]
  simp [hidle, hsource]

end

theorem postRefusal_commandTaken (offset number : Nat) (c : Command) (w : HostWrite) (s : State) :
    postRefusal (commandTaken offset c w s) number = postRefusal s number := by
  simp [postRefusal]

theorem postMembers_commandTaken (offset : Nat) (c : Command) (w : HostWrite) (s : State) (mask : BitVec 8)
    (owner : Nat) : postMembers (commandTaken offset c w s) mask owner = postMembers s mask owner := by
  simp [postMembers]

/-! ### The two commands -/

/-- A refused POST makes its COMMAND_DONE and does nothing else (R74). -/
theorem exec_broadcastPost_refused {offset number : Nat} {c : Command} {w : HostWrite} {s : State}
    {outcome : CommandOutcome} (h : CommandWritten offset c w s) (hcode : c.code = 4)
    (hnumber : number = fieldOf c.argument 0 4) (hrefused : postRefusal s number = some outcome) :
    exec (.broadcastPost w) s = .next (calm (afterCommand offset w
      (makeReport (.commandDone 4 outcome 0) none none none (some c.tag) (commandTaken offset c w s)))) := by
  rw [exec_broadcastPost h hcode, ← hnumber, commandPost, postRefusal_commandTaken, hrefused]
  simp only [commandDone, hcode]

/-- A POST that passes its checks forms its set and is ACCEPTED with the number of members (R75). -/
theorem exec_broadcastPost_accepted {offset number : Nat} {c : Command} {w : HostWrite} {s : State}
    {members : List Nat} (h : CommandWritten offset c w s) (hcode : c.code = 4)
    (hnumber : number = fieldOf c.argument 0 4) (hpass : postRefusal s number = none)
    (hmembers : members = postMembers s (broadcastAt s (number - 1)).mask
      (slotAt s (broadcastAt s (number - 1)).source).owner) :
    exec (.broadcastPost w) s = .next (calm (afterCommand offset w
      (makeReport (.commandDone 4 .accepted members.length) none none none (some c.tag)
        (postBroadcast (number - 1) members (commandTaken offset c w s))))) := by
  rw [exec_broadcastPost h hcode, ← hnumber, commandPost, postRefusal_commandTaken, hpass]
  simp only [commandDone, hcode, postMembers_commandTaken, broadcastAt_commandTaken, slotAt_commandTaken, hmembers]

/-- Settles O39: each check of R74 refuses with its own outcome, and a POST that passes them is `postBroadcast` of the
members that `mem_postMembers` names. -/
theorem postFormsThePendingSet : Obligations.PostFormsThePendingSet := by
  intro offset number c w s hwritten hcode hnumber hdirs _ b done
  refine ⟨fun hbad => ?_, fun hlow hhigh hpresent hlive => ?_, fun hlow hhigh hpresent hidle hsource => ?_,
    fun hlow hhigh hpresent hidle hsource => ?_⟩
  · exact exec_broadcastPost_refused hwritten hcode hnumber (postRefusal_badArgument hbad)
  · exact exec_broadcastPost_refused hwritten hcode hnumber (postRefusal_broadcastLive hlow hhigh hpresent hlive)
  · exact exec_broadcastPost_refused hwritten hcode hnumber (postRefusal_sourceState hlow hhigh hpresent hidle hsource)
  · have hn : number - 1 < 16 := by omega
    have hnodup := postMembers_nodup hdirs b.mask (slotAt s b.source).owner
    refine ⟨_, _, exec_broadcastPost_accepted hwritten hcode hnumber
      (postRefusal_none hlow hhigh hpresent hidle hsource) rfl, hnodup, fun m => mem_postMembers hdirs, ?_, ?_, ?_, ?_,
      postBroadcast_frame _ _ _, .postBroadcast _ _ _, ?_⟩
    · simp only [broadcastAt_postBroadcast hn, if_true, broadcastAt_commandTaken, b]
    · intro n hne
      simp only [broadcastAt_postBroadcast hn, if_neg hne, broadcastAt_commandTaken]
    · intro m hm
      rw [boxAt_postBroadcast hn hnodup, if_pos hm, derived_eq_afresh (s := s) (by simp), boxAt_commandTaken,
        broadcastAt_commandTaken]
      rfl
    · intro m hm
      rw [boxAt_postBroadcast hn hnodup, if_neg hm, boxAt_commandTaken]
    · rw [postBroadcast_reports hn, broadcastAt_commandTaken, Nat.sub_add_cancel hlow]

/-- Settles O40: a LIVE broadcast that is withdrawn is ended by `endBroadcast`, which counts out its pending set. -/
theorem withdrawEndsTheBroadcast : Obligations.WithdrawEndsTheBroadcast := by
  intro offset number c w s hwritten hcode hnumber hpending b done
  have hexec := exec_broadcastWithdraw hwritten hcode
  simp only [← hnumber, commandWithdraw, broadcastAt_commandTaken, commandDone, hcode] at hexec
  refine ⟨fun hbad => ?_, fun hlow hhigh hidle => ?_, fun hlow hhigh hlive => ?_⟩
  · rw [hexec, if_pos hbad]
  · rw [hexec, if_neg (by omega), if_neg (Bool.eq_false_iff.mp hidle)]
  · have hn : number - 1 < 16 := by omega
    have hnodup : (broadcastAt (commandTaken offset c w s) (number - 1)).pending.Nodup := by
      rw [broadcastAt_commandTaken]
      exact hpending _
    rw [if_neg (by omega), if_pos hlive] at hexec
    refine ⟨_, hexec, ?_, ?_, ?_, ?_, endBroadcast_frame _ _ _ _, .endBroadcast _ _ _ _, ?_⟩
    · simp only [broadcastAt_endBroadcast hn, if_true, broadcastAt_commandTaken, b]
    · intro n hne
      simp only [broadcastAt_endBroadcast hn, if_neg hne, broadcastAt_commandTaken]
    · intro m hm
      rw [boxAt_endBroadcast _ _ _ hnodup, broadcastAt_commandTaken, if_pos hm, derived_eq_afresh (s := s) (by simp),
        boxAt_commandTaken]
      rfl
    · intro m hm
      rw [boxAt_endBroadcast _ _ _ hnodup, broadcastAt_commandTaken, if_neg hm, boxAt_commandTaken]
    · rw [endBroadcast_reports, broadcastAt_commandTaken, Nat.sub_add_cancel hlow]

end Sys2Proof.Machine

namespace Sys2Proof.Machine

/-! ### When a slot is due (R95) -/

theorem isKept_iff {state : SlotState} : isKept state = true ↔ state = .new ∨ state = .heard ∨ state = .saved := by
  cases state <;> simp [isKept]

/-- Settles O20: `isDue` tests the state by `isKept_iff`, and an absent expiry day is never reached. -/
theorem slotIsDueExactlyWhen : Obligations.SlotIsDueExactlyWhen := by
  intro day r
  rw [isDue, Bool.and_eq_true, isKept_iff]
  refine and_congr_right fun _ => ?_
  cases r.expiry with
  | absent held => simp
  | on d => simp

/-! ### The greeting choice (R107, R109 to R113) -/

theorem insideSchedule_iff {ws : List Window} {t : Nat} :
    insideSchedule ws t = true ↔ ∃ w ∈ ws, w.on ≤ t ∧ t < w.off := by
  simp [insideSchedule]

theorem insideBreaks_iff {ranges : List DayRange} {day : Nat} :
    insideBreaks ranges day = true ↔ ∃ r ∈ ranges, r.first ≤ day ∧ day ≤ r.last := by
  simp [insideBreaks]

theorem beforeAbsence_iff {s : State} {b : MailboxRec} :
    beforeAbsence s b = true ↔ s.calendar.day < b.absenceDay
      ∨ (s.calendar.day = b.absenceDay ∧ s.calendar.minute < b.absenceMinute) := by
  simp [beforeAbsence]

theorem firstChoice_inactive {s : State} {b : MailboxRec} (h : b.status ≠ .active) : firstChoice s b = .system :=
  if_pos h

theorem firstChoice_unset {s : State} {b : MailboxRec} (hactive : b.status = .active)
    (hunset : s.calendar.isSet = false) : firstChoice s b = .primary := by
  rw [firstChoice, if_neg (not_not_intro hactive), if_pos hunset]

/-- The choice of R110 for an ACTIVE box while the calendar is set, its conditions spelt out. -/
theorem firstChoice_set {s : State} {b : MailboxRec} (hactive : b.status = .active) (hset : s.calendar.isSet = true) :
    firstChoice s b =
      if b.absence.length ≠ 0 ∧ b.absenceMinute ≠ 65535
        ∧ (s.calendar.day < b.absenceDay ∨ (s.calendar.day = b.absenceDay ∧ s.calendar.minute < b.absenceMinute)) then
        .absence
      else if (classAt s b.cls).followsBreaks = true
        ∧ ∃ r ∈ s.greetings.breaks, r.first ≤ s.calendar.day ∧ s.calendar.day ≤ r.last then .onBreak
      else if b.schedule = 255 then .primary
      else if ∃ w ∈ scheduleAt s b.schedule, w.on ≤ weekMinute s ∧ weekMinute s < w.off then .primary
      else .afterHours := by
  rw [firstChoice, if_neg (not_not_intro hactive), if_neg (by simp [hset])]
  simp only [absenceAbsent, scheduleAbsent, beforeAbsence_iff, insideBreaks_iff, insideSchedule_iff, beq_iff_eq,
    beq_eq_false_iff_ne]

/-- The links that a choice's fallback chain has from it on, NONE not counted (R111). -/
def chainLength : Greeting → Nat
  | .none => 0
  | .system => 1
  | .primary => 2
  | .afterHours => 3
  | .absence => 3
  | .onBreak => 4

theorem chainLength_nextChoice (g : Greeting) : chainLength (nextChoice g) ≤ chainLength g - 1 := by
  cases g <;> decide

/-- Beyond the length of its chain a choice is carried no further down. -/
theorem carryDown_succ (c : ClassEntry) (b : MailboxRec) {n : Nat} {g : Greeting} (h : chainLength g ≤ n) :
    carryDown c b (n + 1) g = carryDown c b n g := by
  induction n generalizing g with
  | zero =>
    cases g with
    | none => simp [carryDown, nextChoice]
    | _ => simp [chainLength] at h
  | succ n ih =>
    have hnext := chainLength_nextChoice g
    rw [carryDown, ih (by omega), ← carryDown]

/-- A choice whose locator is present is given. -/
theorem carryDown_present {c : ClassEntry} {b : MailboxRec} {g : Greeting} (h : (choiceLocator c b g).length ≠ 0) :
    carryDown c b 4 g = g := by
  rw [carryDown, if_neg h]

/-- A choice whose locator is absent gives what the next link of its chain gives. -/
theorem carryDown_absent {c : ClassEntry} {b : MailboxRec} {g : Greeting} (h : (choiceLocator c b g).length = 0) :
    carryDown c b 4 g = carryDown c b 4 (nextChoice g) := by
  have hshort : chainLength (nextChoice g) ≤ 3 := by cases g <;> decide
  rw [carryDown, if_pos h, carryDown_succ c b hshort]

/-- Settles O27: the branches of `firstChoice_set`, and one link of the chain for each choice. -/
theorem greetingChoiceAndItsFallback : Obligations.GreetingChoiceAndItsFallback := by
  refine ⟨?_, fun c b => ?_, fun s m => ⟨rfl, rfl⟩⟩
  · intro s b t ht away onBreak inside
    have hweek : weekMinute s = t := by rw [ht, weekMinute, Nat.mul_comm]
    refine ⟨firstChoice_inactive, firstChoice_unset, fun hactive hset haway => ?_,
      fun hactive hset haway hbreak => ?_, fun hactive hset haway hbreak hinside => ?_,
      fun hactive hset haway hbreak hschedule hinside => ?_⟩
    · rw [firstChoice_set hactive hset, if_pos haway]
    · rw [firstChoice_set hactive hset, if_neg haway, if_pos hbreak]
    · rw [firstChoice_set hactive hset, hweek, if_neg haway, if_neg hbreak]
      rcases hinside with hunscheduled | hinside
      · rw [if_pos hunscheduled]
      · rw [if_pos hinside, ite_self]
    · rw [firstChoice_set hactive hset, hweek, if_neg haway, if_neg hbreak, if_neg hschedule, if_neg hinside]
  · exact ⟨fun g _ => carryDown_present, carryDown_absent (g := .absence), carryDown_absent (g := .onBreak),
      carryDown_absent (g := .afterHours), carryDown_absent (g := .primary), carryDown_absent (g := .system),
      rfl, rfl, rfl, rfl, rfl⟩

/-! ### CLOCK_SET, SWEEP_NOW and a command with no code (R89, R98, R185) -/

theorem areaLanes_command (line : List Lane) : areaLanes line .command = line.take 16 := rfl

/-- A command is carried by a write that touches the command record with every byte enabled (R182). -/
theorem writtenCommand_eq_some_iff {line : List Lane} {records : List AreaRecord} {c : Command} :
    writtenCommand line records = some c ↔ .command ∈ records ∧ (∀ l ∈ line.take 16, l.enabled = true)
      ∧ c = readCommand (laneData (line.take 16)) := by
  rw [writtenCommand, Option.ite_none_right_eq_some, areaLanes_command, List.all_eq_true, Option.some.injEq, and_assoc,
    eq_comm (a := c)]

/-- Forwarding the write and noting its command leave the calendar and the sweep. -/
@[simp] theorem commandTaken_clock (offset : Nat) (c : Command) (w : HostWrite) (s : State) :
    (commandTaken offset c w s).calendar = s.calendar ∧ (commandTaken offset c w s).sweep = s.sweep := by
  simp [commandTaken, areaForwarded]

/-- The sweep that a command starts has the calendar's day (R99). -/
theorem startSweep_commandTaken (offset : Nat) (c : Command) (w : HostWrite) (s : State) :
    startSweep (commandTaken offset c w s) = { commandTaken offset c w s with
      sweep := ⟨true, .visiting, if s.calendar.isSet then s.calendar.day else 0, 0, 0, 0, 0⟩ } := by
  simp only [startSweep, commandTaken_clock]

section
variable {offset : Nat} {c : Command} {w : HostWrite} {s : State} (h : CommandWritten offset c w s)
include h

/-- A command other than RESTART has its effect in the state that `commandTaken` gives (R182, R185). -/
theorem hostArrives_effect {effect : State → State} (hcode : c.code ≠ 1)
    (heffect : ∀ u, takeCommand c u = effect { u with control := { u.control with command := some c } }) :
    hostArrives (.write w) s = calm (afterCommand offset w (effect (commandTaken offset c w s))) := by
  rw [hostArrives_command h hcode, heffect]
  rfl

/-- CLOCK_SET is the command of code 3 (section 11.4). -/
theorem exec_clockSet (hcode : c.code = 3) :
    exec (.clockSet w) s = .next (calm (afterCommand offset w (commandClock c (commandTaken offset c w s)))) :=
  congrArg Host.Outcome.next (hostArrives_effect h (by omega) fun u => by simp only [takeCommand, hcode])

/-- SWEEP_NOW is the command of code 2 (section 11.4). -/
theorem exec_sweepNow (hcode : c.code = 2) :
    exec (.sweepNow w) s = .next (calm (afterCommand offset w (commandSweep c (commandTaken offset c w s)))) :=
  congrArg Host.Outcome.next (hostArrives_effect h (by omega) fun u => by simp only [takeCommand, hcode])

/-- A code outside 1 to 6 is no command's (section 11.4). -/
theorem exec_badCommand (hcode : c.code = 0 ∨ 6 < c.code) :
    exec (.badCommand w) s
      = .next (calm (afterCommand offset w (commandDone c .badCommand 0 (commandTaken offset c w s)))) := by
  refine congrArg Host.Outcome.next (hostArrives_effect h (by omega) fun u => ?_)
  unfold takeCommand
  split
  case h_7 => rfl
  all_goals omega

end

/-- A calendar argument is refused just when one of its fields is out of range (R89). -/
theorem clock_out_of_range {day minute second : Nat} :
    65535 < day ∨ 1439 < minute ∨ 59 < second ↔ ¬ (day ≤ 65535 ∧ minute ≤ 1439 ∧ second ≤ 59) := by omega

/-- Settles O38: each command's row takes its own operation of the calendar, and `writtenCommand_eq_some_iff` says which
write carries it. -/
theorem clockSetSweepNowAndBadCommand : Obligations.ClockSetSweepNowAndBadCommand := by
  refine ⟨?_, fun offset c w s h => ⟨fun hcode hidle => ?_, fun hcode hactive => ?_, fun hcode => ?_⟩,
    fun line records c => writtenCommand_eq_some_iff⟩
  · rintro offset c w s h hcode day minute second rfl rfl rfl
    refine ⟨fun hgood => ?_, fun hbad => ?_⟩
    · rw [exec_clockSet h hcode, commandClock, if_neg (mt clock_out_of_range.mp (not_not_intro hgood)), commandDone, hcode]
    · rw [exec_clockSet h hcode, commandClock, if_pos (clock_out_of_range.mpr hbad), commandDone, hcode]
  · rw [exec_sweepNow h hcode, commandSweep, if_neg (by simp [hidle]), startSweep_commandTaken, commandDone,
      hcode]
  · rw [exec_sweepNow h hcode, commandSweep, if_pos (by simpa using hactive), commandDone, hcode]
  · rw [exec_badCommand h hcode, commandDone]

/-! ### The second's advance and the cadence tick (R87, R97, R148) -/

theorem dayAfter_eq {day : Nat} (h : day ≤ 65535) : dayAfter day = min 65535 (day + 1) := by
  unfold dayAfter
  split <;> omega

/-- The passage into second 0 of the sweep minute (R97). -/
theorem startsDaily_iff (s : State) (c : Calendar) : startsDaily { s with calendar := c } = true ↔
    s.part = .running ∧ c.isSet = true ∧ c.second = 0 ∧ s.control.header.sweepMinute = some c.minute
      ∧ s.sweep.active = false := by
  simp [startsDaily, and_assoc]

/-- Outside RESET the calendar advances, and the daily sweep starts with its day (R87, R97, R99). -/
theorem calendarAdvance_eq {s : State} (h : s.part ≠ .reset) : calendarAdvance s =
    if s.part = .running ∧ (advanced s.calendar).isSet = true ∧ (advanced s.calendar).second = 0
        ∧ s.control.header.sweepMinute = some (advanced s.calendar).minute ∧ s.sweep.active = false then
      { s with calendar := advanced s.calendar, sweep := ⟨true, .visiting, (advanced s.calendar).day, 0, 0, 0, 0⟩ }
    else { s with calendar := advanced s.calendar } := by
  simp only [calendarAdvance, if_neg h, startsDaily_iff]
  split
  · next hstarts =>
    obtain ⟨-, hset, -⟩ := hstarts
    simp only [startSweep, if_pos hset]
  · rfl

theorem exec_calendarAdvance (s : State) : exec .calendarAdvance s = .next (settle (calendarAdvance s)) := rfl

theorem exec_cadenceTick (s : State) : exec .cadenceTick s = .next (settle (cadenceTicks s)) := rfl

/-- Settles O49: the advance by `calendarAdvance_eq`, the day by `dayAfter_eq`; the tick is `cadenceTicks`. -/
theorem secondsAndCadenceTicksAdvance : Obligations.SecondsAndCadenceTicksAdvance := by
  refine ⟨fun s hday => ⟨fun hreset => ?_, fun hreset c hc => ?_⟩, fun s => ⟨fun hreset => ?_, fun hreset => ?_⟩⟩
  · rw [exec_calendarAdvance, calendarAdvance, if_pos hreset]
  · have hadvanced : advanced s.calendar = c := by rw [hc, ← dayAfter_eq hday]; rfl
    rw [exec_calendarAdvance, calendarAdvance_eq hreset, hadvanced]
  · rw [exec_cadenceTick, cadenceTicks, if_pos hreset]
  · rw [exec_cadenceTick, cadenceTicks, if_neg hreset]
    rfl

/-! ### RESET (R187, R193) -/

/-- RESET changes of an entry in the queue only whom its answer is for. -/
theorem orphanReport_transaction (e : Entry) :
    ((orphanReport e).kind, (orphanReport e).addr, (orphanReport e).words, (orphanReport e).lanes)
      = (e.kind, e.addr, e.words, e.lanes) := by
  unfold orphanReport orphanLoader
  cases e.origin <;> rfl

/-- Under RESET no entry in the queue is the loader's or a report write. -/
theorem orphanReport_origin (e : Entry) :
    (orphanReport e).origin ≠ .report ∧ (orphanReport e).origin ≠ .loadWrite
      ∧ ∀ i, (orphanReport e).origin ≠ .loadRead i := by
  unfold orphanReport orphanLoader
  cases h : e.origin <;> simp [h]

/-- RESET asserted changes nothing that `ShadowsEmpty` reads of the shadows it has emptied. -/
theorem assertReset_empty (s : State) : ShadowsEmpty (assertReset s) := clearShadows_empty s

/-- Entry to LOADING begins with the shadows emptied (R187). -/
theorem enterLoading_empty (s : State) : ShadowsEmpty (enterLoading s) := clearShadows_empty s

theorem exec_resetReleased (straps : BitVec 4) (s : State) :
    exec (.resetReleased straps) s = .next (settle (releaseReset straps s)) := rfl

/-- Settles O56: RESET asserted is `assertReset`, whose queue is `orphanReport` of each entry; RESET released enters
LOADING from RESET alone. -/
theorem resetAssertedAndReleased : Obligations.ResetAssertedAndReleased := by
  intro straps s
  refine ⟨⟨assertReset s, rfl, rfl, assertReset_empty s, rfl, ?_, ?_,
      rfl, rfl, rfl, rfl, rfl, rfl, rfl, rfl, rfl, rfl, rfl, rfl⟩,
    fun hreset => ⟨enterLoading { s with straps := straps }, ?_, rfl, enterLoading_empty _,
      rfl, rfl, rfl, rfl, rfl, rfl, rfl, rfl, rfl, rfl, rfl, rfl, rfl⟩, fun hreset => ?_⟩
  · show (s.transit.queue.map orphanReport).map _ = _
    rw [List.map_map]
    exact List.map_congr_left fun e _ => orphanReport_transaction e
  · intro e he
    obtain ⟨old, -, rfl⟩ := List.mem_map.mp he
    exact orphanReport_origin old
  · rw [exec_resetReleased, releaseReset, if_pos hreset]
  · rw [exec_resetReleased, releaseReset, if_neg hreset]

/-! ### A load in order, and a read among the loader's writes (R188) -/

/-- A read numbered 7 of the loader. -/
def strayRead : Entry := ⟨.read, 0, 16, [], .loadRead 7⟩

/-- A load that has asked for nothing yet, with a read where its groups of writes wait for room. `LoadInOrder` and
`LoaderPresent` say nothing of those groups. -/
def strayLoad : State := { State.reset with
  pending := [.loaderRoomGrant], part := .loading, loader := some ⟨0, 0, [], 0, [[strayRead]]⟩ }

theorem strayLoad_loaderPresent : LoaderPresent strayLoad := by simp [LoaderPresent, strayLoad, State.reset]

theorem strayLoad_loadInOrder : LoadInOrder strayLoad :=
  ⟨rfl, Nat.le_refl 0, rfl, fun _ _ => rfl, fun _ _ => rfl⟩

/-- The grant of room places the group as it waits, and no read of the load has moved on. -/
theorem step_strayLoad : ∃ t, step strayLoad = .next t ∧ t.loader = some ⟨0, 0, [], 0, []⟩
    ∧ t.transit.queue = [strayRead] := ⟨_, rfl, rfl, rfl⟩

/-- Refutes O5 in its fifth part: `LoadInOrder` with `LoaderPresent` is not kept by every step, since neither says that
the groups of writes waiting for room hold no read. The loader itself makes only groups of writes, so no load from RESET
comes to `strayLoad`; a step that places its group puts read 7 where none is asked for. -/
theorem not_stepKeepsBoundsAndLoaderPresent : ¬ Obligations.StepKeepsBoundsAndLoaderPresent := by
  rintro ⟨-, -, -, -, hkeeps, -⟩
  obtain ⟨t, hstep, hloader, hqueue⟩ := step_strayLoad
  have horder := hkeeps strayLoad t strayLoad_loadInOrder strayLoad_loaderPresent hstep
  rw [LoadInOrder, hloader, hqueue] at horder
  obtain ⟨-, -, hreads, -⟩ := horder
  cases hreads

end Sys2Proof.Machine

namespace Sys2Proof.Machine

/-! ### The play latches by number (R119, R120, R125) -/

theorem latchAt_eq_some {s : State} {k : Nat} {l : Latch} :
    latchAt s k = some l ↔ s.greetings.latches.toList[k]? = some (some l) := by
  rw [latchAt, Vector.getElem?_toList]
  cases s.greetings.latches[k]? <;> simp

theorem latchAt_eq_none_of_lt {s : State} {k : Nat} (hk : k < 48) :
    latchAt s k = none ↔ s.greetings.latches.toList[k]? = some none := by
  rw [latchAt, Vector.getElem?_toList, Vector.getElem?_eq_getElem hk]
  simp

/-- Every listed cell of the latches has a number below 48. -/
theorem latch_number_lt {s : State} {k : Nat} {cell : Option Latch}
    (h : s.greetings.latches.toList[k]? = some cell) : k < 48 := by
  simpa using (List.getElem?_eq_some_iff.mp h).1

/-- A lane's latch is the lowest-numbered one that names its mailbox and lane (R119). -/
theorem laneLatch_eq_some {s : State} {m lane k : Nat} :
    laneLatch s m lane = some k ↔ (∃ l, latchAt s k = some l ∧ l.mailbox = m ∧ l.lane = lane)
      ∧ ∀ i l, i < k → latchAt s i = some l → ¬ (l.mailbox = m ∧ l.lane = lane) := by
  simp only [laneLatch, lowest_eq_some, latchAt_eq_some]
  constructor
  · rintro ⟨⟨cell, hcell, hnames⟩, hlow⟩
    refine ⟨?_, fun i l hi hl => by simpa using hlow i (some l) hi hl⟩
    cases cell with
    | none => cases hnames
    | some l => exact ⟨l, hcell, by simpa using hnames⟩
  · rintro ⟨⟨l, hl, hnames⟩, hlow⟩
    refine ⟨⟨some l, hl, by simpa using hnames⟩, fun i cell hi hcell => ?_⟩
    cases cell with
    | none => rfl
    | some l => simpa using hlow i l hi hcell

/-- A lane has no latch when none names its mailbox and lane. -/
theorem laneLatch_eq_none {s : State} {m lane : Nat} :
    laneLatch s m lane = none ↔ ∀ i l, latchAt s i = some l → ¬ (l.mailbox = m ∧ l.lane = lane) := by
  simp only [laneLatch, lowest_eq_none, latchAt_eq_some]
  constructor
  · exact fun hnone i l hl => by simpa using hnone (some l) (List.mem_of_getElem? hl)
  · intro hnone cell hcell
    obtain ⟨i, hi⟩ := List.mem_iff_getElem?.mp hcell
    cases cell with
    | none => rfl
    | some l => simpa using hnone i l hi

/-- A play takes the lowest-numbered latch that is FREE (R120). -/
theorem freeLatch_eq_some {s : State} {k : Nat} (hk : k < 48) (hfree : latchAt s k = none)
    (hlow : ∀ i, i < k → latchAt s i ≠ none) : freeLatch s = some k := by
  rw [freeLatch, lowest_eq_some]
  refine ⟨⟨none, (latchAt_eq_none_of_lt hk).mp hfree, rfl⟩, fun i cell hi hcell => ?_⟩
  cases cell with
  | none => exact absurd ((latchAt_eq_none_of_lt (Nat.lt_trans hi hk)).mpr hcell) (hlow i hi)
  | some l => rfl

theorem freeLatch_eq_none {s : State} (hheld : ∀ i, i < 48 → latchAt s i ≠ none) : freeLatch s = none := by
  rw [freeLatch, lowest_eq_none]
  intro cell hcell
  obtain ⟨i, hi⟩ := List.mem_iff_getElem?.mp hcell
  cases cell with
  | none =>
    have hlt := latch_number_lt hi
    exact absurd ((latchAt_eq_none_of_lt hlt).mpr hi) (hheld i hlt)
  | some l => rfl

/-- A latch holds a block when one of its pieces has it (R125). -/
theorem latchHolds_iff {block : Nat} {l : Latch} :
    latchHolds block l = true ↔ ∃ p ∈ l.pieces, p.first ≤ block ∧ block < p.first + p.length := by
  simp [latchHolds]

/-- A cell of the latches that holds a HELD latch with a block. -/
def cellHolds (block : Nat) (cell : Option Latch) : Bool := cell.any (latchHolds block)

theorem cellHolds_some (block : Nat) (l : Latch) : cellHolds block (some l) = latchHolds block l := rfl

theorem latchInPlay_eq_find? (s : State) (addr : Nat) :
    latchInPlay s addr = (s.greetings.latches.toList.find? (cellHolds (addr / 4096))).bind id := by
  rw [latchInPlay, List.find?_filterMap]
  rfl

/-- The latch in play at an address is the lowest-numbered one that holds its block (R125). -/
theorem latchInPlay_eq_some {s : State} {addr : Nat} {l : Latch} :
    latchInPlay s addr = some l ↔ ∃ k, latchAt s k = some l ∧ latchHolds (addr / 4096) l = true
      ∧ ∀ i h, i < k → latchAt s i = some h → latchHolds (addr / 4096) h = false := by
  simp only [latchInPlay_eq_find?, Option.bind_eq_some_iff, id, exists_eq_right, latchAt_eq_some,
    List.find?_eq_some_iff_getElem]
  constructor
  · rintro ⟨hholds, k, hk, hcell, hlow⟩
    refine ⟨k, List.getElem?_eq_some_iff.mpr ⟨hk, hcell⟩, hholds, fun i h hi hget => ?_⟩
    obtain ⟨hlt, hget⟩ := List.getElem?_eq_some_iff.mp hget
    simpa [hget, cellHolds_some] using hlow i hi
  · rintro ⟨k, hget, hholds, hlow⟩
    obtain ⟨hk, hcell⟩ := List.getElem?_eq_some_iff.mp hget
    refine ⟨hholds, k, hk, hcell, fun i hi => ?_⟩
    have hlt : i < s.greetings.latches.toList.length := Nat.lt_trans hi hk
    cases h : s.greetings.latches.toList[i] with
    | none => rfl
    | some h' => simpa [cellHolds_some] using hlow i h' hi (List.getElem?_eq_some_iff.mpr ⟨hlt, h⟩)

/-- No latch is in play at an address when none holds its block. -/
theorem latchInPlay_eq_none {s : State} {addr : Nat} :
    latchInPlay s addr = none ↔ ∀ i h, latchAt s i = some h → latchHolds (addr / 4096) h = false := by
  simp only [latchInPlay, List.find?_eq_none, List.mem_filterMap, id, exists_eq_right, latchAt_eq_some,
    Bool.not_eq_true]
  exact ⟨fun hnone i h hget => hnone h (List.mem_of_getElem? hget),
    fun hnone h hmem => (List.mem_iff_getElem?.mp hmem).elim fun i hget => hnone i h hget⟩

/-! ### Windows and pieces (R115 to R117) -/

/-- A piece laid out behind a window of at most 128 blocks: what of it fits, if anything does (R115). -/
theorem addPiece_eq (kind : PieceKind) (l : Locator) {w : ComposedWindow} (hw : w.composed ≤ 128) :
    addPiece kind l w = ⟨w.pieces ++ (if min (128 - w.composed) l.length = 0 then []
        else [⟨kind, l.first, min (128 - w.composed) l.length, w.composed⟩]),
      w.composed + min (128 - w.composed) l.length⟩ := by
  rw [addPiece, show Config.laneBlocks = 128 from rfl]
  by_cases hnone : l.length = 0 ∨ 128 ≤ w.composed
  · have hfits : min (128 - w.composed) l.length = 0 := by omega
    simp [hnone, hfits]
  · have hfits : min (128 - w.composed) l.length ≠ 0 := by omega
    have hcut : (if 128 < w.composed + l.length then 128 - w.composed else l.length)
        = min (128 - w.composed) l.length := by split <;> omega
    simp only [if_neg hnone, if_neg hfits, hcut]

theorem addPiece_composed_le (kind : PieceKind) (l : Locator) {w : ComposedWindow} (hw : w.composed ≤ 128) :
    (addPiece kind l w).composed ≤ 128 := by
  rw [addPiece_eq kind l hw]
  show w.composed + _ ≤ 128
  omega

/-- A window of a mailbox and a greeting: its pieces by the blocks that are left for each (R115). -/
theorem composeWindow_eq (s : State) (m : Nat) (g : Greeting) :
    let c := classOf s m
    let l := choiceLocator c (boxAt s m) g
    let first := min 128 c.preamble.length
    let second := min (128 - first) l.length
    let third := min (128 - first - second) c.trailer.length
    composeWindow s m g = ⟨(if first = 0 then [] else [⟨.preamble, c.preamble.first, first, 0⟩])
        ++ (if second = 0 then [] else [⟨.greeting, l.first, second, first⟩])
        ++ (if third = 0 then [] else [⟨.trailer, c.trailer.first, third, first + second⟩]),
      first + second + third⟩ := by
  intro c l first second third
  have hempty : (⟨[], 0⟩ : ComposedWindow).composed ≤ 128 := by simp
  have hpreamble := addPiece_composed_le .preamble c.preamble hempty
  have hgreeting := addPiece_composed_le .greeting l hpreamble
  rw [composeWindow, addPiece_eq _ _ hgreeting, addPiece_eq _ _ hpreamble, addPiece_eq _ _ hempty]
  simp only [Nat.zero_add, Nat.sub_zero, List.nil_append, Nat.sub_add_eq, first, second, third, l, c]

/-- The piece that is found for a block has it. -/
theorem pieceAt_eq_some {pieces : List Piece} {block : Nat} {p : Piece} (h : pieceAt pieces block = some p) :
    p ∈ pieces ∧ p.start ≤ block ∧ block < p.start + p.length :=
  ⟨List.mem_of_find?_eq_some h, by simpa using List.find?_some h⟩

theorem pieceAt_eq_none {pieces : List Piece} {block : Nat} :
    pieceAt pieces block = none ↔ ∀ p ∈ pieces, ¬ (p.start ≤ block ∧ block < p.start + p.length) := by
  simp [pieceAt]

/-- The only piece that has a block is the one found for it. -/
theorem pieceAt_of_only {pieces : List Piece} {block : Nat} {p : Piece} (hp : p ∈ pieces)
    (hholds : p.start ≤ block ∧ block < p.start + p.length)
    (honly : ∀ q ∈ pieces, q.start ≤ block ∧ block < q.start + q.length → q = p) : pieceAt pieces block = some p := by
  cases hfound : pieceAt pieces block with
  | none => exact absurd hholds (pieceAt_eq_none.mp hfound p hp)
  | some q =>
    obtain ⟨hq, hqholds⟩ := pieceAt_eq_some hfound
    rw [honly q hq hqholds]

/-- A read inside a piece is forwarded to the piece's physical address (R116). -/
theorem serveWindow_translated {pieces : List Piece} {position : Nat} {p : Piece}
    (h : pieceAt pieces (position / 4096) = some p) (words : Nat) (s : State) :
    serveWindow pieces position words s = joinOrder none (place
      [⟨.read, 4096 * (p.first + (position / 4096 - p.start)) + position % 4096, words, [], .translated⟩] s) := by
  simp only [serveWindow, Config.blockBytes, h, physicalAddr]

/-- A read past the window is answered with zero words (R117). -/
theorem serveWindow_zeros {pieces : List Piece} {position : Nat} (h : pieceAt pieces (position / 4096) = none)
    (words : Nat) (s : State) :
    serveWindow pieces position words s = joinOrder (some ⟨.done, List.replicate (8 * words) 0⟩) s := by
  simp only [serveWindow, Config.blockBytes, h, zeroWords, zeros]

/-! ### What the taking of a transaction leaves of the Greeting Selector's sight -/

/-- The choice reads the calendar, the header and classes, and the Greeting Selector's tables alone (R110). -/
theorem firstChoice_congr {s u : State} (hcalendar : u.calendar = s.calendar) (hcontrol : u.control = s.control)
    (hgreetings : u.greetings = s.greetings) (b : MailboxRec) : firstChoice u b = firstChoice s b := by
  unfold firstChoice beforeAbsence weekMinute classAt scheduleAt
  rw [hcalendar, hcontrol, hgreetings]

section
variable (t : HostTxn) (s : State)

@[simp] theorem latchAt_accepted (k : Nat) : latchAt (accepted t s) k = latchAt s k := by simp [latchAt]

@[simp] theorem laneLatch_accepted (m lane : Nat) : laneLatch (accepted t s) m lane = laneLatch s m lane := by
  simp [laneLatch]

@[simp] theorem latchInPlay_accepted (addr : Nat) : latchInPlay (accepted t s) addr = latchInPlay s addr := by
  simp [latchInPlay]

@[simp] theorem boxAt_accepted (m : Nat) : boxAt (accepted t s) m = boxAt s m := boxAt_congr (by simp) m

@[simp] theorem classAt_accepted (c : Nat) : classAt (accepted t s) c = classAt s c := by simp [classAt]

@[simp] theorem classOf_accepted (m : Nat) : classOf (accepted t s) m = classOf s m := by simp [classOf]

@[simp] theorem selectGreeting_accepted (m : Nat) : selectGreeting (accepted t s) m = selectGreeting s m := by
  have hfirst := firstChoice_congr (s := s) (u := accepted t s) (by simp) (by simp) (by simp)
  rw [selectGreeting, classOf_accepted, boxAt_accepted, hfirst, selectGreeting]

@[simp] theorem composeWindow_accepted (m : Nat) (g : Greeting) :
    composeWindow (accepted t s) m g = composeWindow s m g := by
  simp [composeWindow]

@[simp] theorem latchDeadline_accepted :
    latchDeadline (accepted t s) = s.now + 32768 * s.control.header.latchIdle := by
  simp [latchDeadline, secondsToCycles, Config.cyclesPerSecond]

end

/-! ### A read of the ALIAS region taken at once (R114, R120, R121) -/

theorem readAlias_zero {base : Nat} {r : HostRead} (h : (r.addr.toNat - base) % 524288 = 0) (s : State) :
    readAlias base r s = aliasStart ((r.addr.toNat - base) / 1048576) ((r.addr.toNat - base) / 524288 % 2)
      r.words.toNat s := if_pos h

theorem readAlias_later {base : Nat} {r : HostRead} (h : (r.addr.toNat - base) % 524288 ≠ 0) (s : State) :
    readAlias base r s = aliasContinue ((r.addr.toNat - base) / 1048576) ((r.addr.toNat - base) / 524288 % 2)
      ((r.addr.toNat - base) % 524288) r.words.toNat s := if_neg h

/-- A read of the ALIAS region is served by the Greeting Selector in the state it is taken in. -/
theorem hostArrives_aliasRead {base : Nat} {r : HostRead} {s : State} (hready : PortReady (.read r) s)
    (hfalls : FallsIn .aliasWindow base (.read r) s) :
    hostArrives (.read r) s = calm (readAlias base r (accepted (.read r) s)) := by
  obtain ⟨size, htaken⟩ := takeTxn_read hfalls.accepted
  rw [hostArrives_ready hready, htaken]
  rfl

/-- A read at position 0 starts a play with the greeting then selected (R120). -/
theorem exec_aliasReadPositionZero {base : Nat} {r : HostRead} {s : State} (hready : PortReady (.read r) s)
    (hfalls : FallsIn .aliasWindow base (.read r) s) (hzero : (r.addr.toNat - base) % 524288 = 0) :
    exec (.aliasReadPositionZero r) s = .next (calm (aliasStart ((r.addr.toNat - base) / 1048576)
      ((r.addr.toNat - base) / 524288 % 2) r.words.toNat (accepted (.read r) s))) := by
  have harrives := hostArrives_aliasRead hready hfalls
  rw [readAlias_zero hzero] at harrives
  exact congrArg Host.Outcome.next harrives

/-- A read at another position goes on with its lane's play (R121). -/
theorem exec_aliasRead {base : Nat} {r : HostRead} {s : State} (hready : PortReady (.read r) s)
    (hfalls : FallsIn .aliasWindow base (.read r) s) (hlater : (r.addr.toNat - base) % 524288 ≠ 0) :
    exec (.aliasRead r) s = .next (calm (aliasContinue ((r.addr.toNat - base) / 1048576)
      ((r.addr.toNat - base) / 524288 % 2) ((r.addr.toNat - base) % 524288) r.words.toNat
      (accepted (.read r) s))) := by
  have harrives := hostArrives_aliasRead hready hfalls
  rw [readAlias_later hlater] at harrives
  exact congrArg Host.Outcome.next harrives

/-! ### The latch of a play that starts (R120, R123) -/

section
variable {m lane : Nat} {w : ComposedWindow} {s : State} (g : Greeting)

theorem startPlay_renews {k : Nat} (hlane : laneLatch s m lane = some k) (hw : 0 < w.composed) :
    startPlay m lane g w s = putLatch k (some ⟨m, lane, g, w.pieces, w.composed, latchDeadline s⟩) s := by
  simp only [startPlay, hlane, if_neg (Nat.ne_of_gt hw)]

theorem startPlay_releases {k : Nat} (hlane : laneLatch s m lane = some k) (hw : w.composed = 0) :
    startPlay m lane g w s = releaseLatch k s := by
  simp only [startPlay, hlane, if_pos hw]

theorem startPlay_empty (hlane : laneLatch s m lane = none) (hw : w.composed = 0) : startPlay m lane g w s = s := by
  simp only [startPlay, hlane, if_pos hw]

theorem startPlay_takes {k : Nat} (hlane : laneLatch s m lane = none) (hw : 0 < w.composed)
    (hfree : freeLatch s = some k) :
    startPlay m lane g w s = putLatch k (some ⟨m, lane, g, w.pieces, w.composed, latchDeadline s⟩) s := by
  simp only [startPlay, hlane, if_neg (Nat.ne_of_gt hw), hfree]

theorem startPlay_poolEmpty (hlane : laneLatch s m lane = none) (hw : 0 < w.composed) (hfree : freeLatch s = none) :
    startPlay m lane g w s = playUnlatched m lane s := by
  simp only [startPlay, hlane, if_neg (Nat.ne_of_gt hw), hfree]

end

/-- Settles O28: `startPlay` has one lemma for each course of a play, the window is `composeWindow_eq`, and a lane's latch
is the lowest number of `lowest_eq_some`. -/
theorem positionZeroReadStartsAPlay : Obligations.PositionZeroReadStartsAPlay := by
  refine ⟨?_, composeWindow_eq, fun s m lane k => ⟨laneLatch_eq_some, laneLatch_eq_none⟩⟩
  rintro base m lane r s hready hfalls hzero rfl rfl g w latch u rfl
  have hexec := exec_aliasReadPositionZero hready hfalls hzero
  simp only [aliasStart, selectGreeting_accepted, composeWindow_accepted] at hexec
  rw [hexec]
  refine ⟨fun k hlane hw => ?_, fun k hlane hw => ?_, fun hlane hw => ?_, fun k hlane hw hk hfree hlow => ?_,
    fun hlane hw hheld => ?_⟩
  · rw [startPlay_renews _ (by simpa using hlane) hw, latchDeadline_accepted]
  · rw [startPlay_releases _ (by simpa using hlane) hw]
  · rw [startPlay_empty _ (by simpa using hlane) hw]
  · rw [startPlay_takes _ (by simpa using hlane) hw
      (freeLatch_eq_some hk (by simpa using hfree) (by simpa using hlow)), latchDeadline_accepted]
  · rw [startPlay_poolEmpty _ (by simpa using hlane) hw (freeLatch_eq_none (by simpa using hheld))]
    simp [playUnlatched, w, g]

/-! ### A later read of a lane (R121) -/

section
variable {m lane : Nat} {s : State} (position words : Nat)

theorem aliasContinue_afresh (hlane : laneLatch s m lane = none) : aliasContinue m lane position words s
    = serveWindow (composeWindow s m (selectGreeting s m)).pieces position words s := by
  simp only [aliasContinue, hlane]

theorem aliasContinue_latched {k : Nat} {l : Latch} (hlane : laneLatch s m lane = some k)
    (hlatch : latchAt s k = some l) : aliasContinue m lane position words s = aliasLatched k l position words s := by
  simp only [aliasContinue, hlane, hlatch]

end

theorem inLastLine_iff {composed position : Nat} :
    inLastLine composed position = true ↔ 4096 * composed ≤ position + 128 ∧ position < 4096 * composed := by
  rw [inLastLine, Bool.and_eq_true, decide_eq_true_eq, decide_eq_true_eq]
  rfl

/-- Settles O29: `aliasContinue` and `aliasLatched` by whether the lane has a latch and the read is in its last line. -/
theorem laterReadIsServedFromTheLatchOrAfresh : Obligations.LaterReadIsServedFromTheLatchOrAfresh := by
  refine ⟨?_, fun pieces position words s =>
      ⟨fun p h => serveWindow_translated h words s, fun h => serveWindow_zeros h words s⟩,
    fun pieces block => ⟨fun p => pieceAt_eq_some, fun p => pieceAt_of_only, pieceAt_eq_none⟩⟩
  rintro base m lane position r s hready hfalls rfl hlater rfl rfl u rfl
  rw [exec_aliasRead hready hfalls hlater]
  refine ⟨fun hlane => ?_, fun k l hlane hlatch => ?_⟩
  · rw [aliasContinue_afresh _ _ (by simpa using hlane), selectGreeting_accepted, composeWindow_accepted]
  · rw [aliasContinue_latched _ _ (by simpa using hlane) (by simpa using hlatch)]
    refine ⟨fun hlast => ?_, fun hearlier => ?_⟩
    · rw [aliasLatched, if_pos (inLastLine_iff.mpr hlast)]
    · rw [aliasLatched, if_neg (mt inLastLine_iff.mp hearlier), latchDeadline_accepted]

/-! ### Writes that the protection of greetings judges (R118, R125, R170) -/

/-- A write into a used region is treated by the region's kind in the state it is taken in. -/
theorem hostArrives_regionWrite {kind : RegionKind} {base : Nat} {w : HostWrite} {s : State}
    (hready : PortReady (.write w) s) (hfalls : FallsIn kind base (.write w) s) :
    ∃ size, hostArrives (.write w) s = calm (writeRegion ⟨kind, base, size⟩ w (accepted (.write w) s)) := by
  obtain ⟨size, htaken⟩ := takeTxn_write hfalls.accepted
  exact ⟨size, by rw [hostArrives_ready hready, htaken]⟩

section
variable (base size : Nat) (w : HostWrite) (s : State)

theorem writeRegion_audio :
    writeRegion ⟨.audio, base, size⟩ w s = guardedWrite w (fun s => joinOrder none (audioWrite w s)) s := rfl

theorem writeRegion_greeting :
    writeRegion ⟨.greeting, base, size⟩ w s = guardedWrite w (forwardPlain (.write w)) s := rfl

end

theorem guardedWrite_inPlay {w : HostWrite} {s : State} {l : Latch} (h : latchInPlay s w.addr.toNat = some l)
    (go : State → State) : guardedWrite w go s = refuseInPlay w l s := by
  simp only [guardedWrite, h]

theorem guardedWrite_passes {w : HostWrite} {s : State} (h : latchInPlay s w.addr.toNat = none)
    (go : State → State) : guardedWrite w go s = go s := by
  simp only [guardedWrite, h]

/-- An AUDIO or GREETING write into a block in play is refused, whatever else it would do (R125). -/
theorem hostArrives_inPlay {kind : RegionKind} {base : Nat} {w : HostWrite} {s : State} {l : Latch}
    (hready : PortReady (.write w) s) (hkind : kind = .audio ∨ kind = .greeting)
    (hfalls : FallsIn kind base (.write w) s) (hplay : latchInPlay s w.addr.toNat = some l) :
    hostArrives (.write w) s = calm (refuseInPlay w l (accepted (.write w) s)) := by
  obtain ⟨size, harrives⟩ := hostArrives_regionWrite hready hfalls
  have hplay : latchInPlay (accepted (.write w) s) w.addr.toNat = some l := by simpa using hplay
  rcases hkind with rfl | rfl
  · rw [harrives, writeRegion_audio, guardedWrite_inPlay hplay]
  · rw [harrives, writeRegion_greeting, guardedWrite_inPlay hplay]

/-- Settles O30: a held piece refuses by `hostArrives_inPlay`, the ALIAS and REPORT regions refuse by `writeRegion`, and
the latch in play is that of `latchInPlay_eq_some`. -/
theorem refusedRegionsAndHeldPiecesRefuseWrites : Obligations.RefusedRegionsAndHeldPiecesRefuseWrites := by
  refine ⟨fun base w s hready => ⟨fun hfalls hfree => ?_, fun l hplay c hcommand => ?_⟩,
    fun base w s hready => ⟨fun hfalls => ?_, fun hfalls => ?_⟩, fun s addr l => ?_⟩
  · obtain ⟨size, harrives⟩ := hostArrives_regionWrite hready hfalls
    rw [writeRegion_greeting, guardedWrite_passes (by simpa using hfree)] at harrives
    exact congrArg Host.Outcome.next harrives
  · rcases hcommand with ⟨rfl, hfalls⟩ | ⟨rfl, hfalls⟩
    · exact congrArg Host.Outcome.next (hostArrives_inPlay hready (.inr rfl) hfalls hplay)
    · exact congrArg Host.Outcome.next (hostArrives_inPlay hready (.inl rfl) hfalls hplay)
  · obtain ⟨size, harrives⟩ := hostArrives_regionWrite hready hfalls
    exact congrArg Host.Outcome.next harrives
  · obtain ⟨size, harrives⟩ := hostArrives_regionWrite hready hfalls
    exact congrArg Host.Outcome.next harrives
  · simp only [latchInPlay_eq_some, latchInPlay_eq_none, ← latchHolds_iff, Bool.not_eq_true, and_self]

end Sys2Proof.Machine

namespace Sys2Proof.Machine

/-! ### The lamps' half under a link's and an entry's change -/

theorem linkState_putLinkState (k i : Link) (x : LinkState) (l : Lamps) :
    linkState (putLinkState k x l) i = if i = k then x else linkState l i := by
  cases k <;> cases i <;> rfl

@[simp] theorem shelfOf_putLinkState (k : Link) (x : LinkState) (l : Lamps) (e : Nat) :
    shelfOf (putLinkState k x l) e = shelfOf l e := by
  cases k <;> rfl

@[simp] theorem putLinkState_cadence (k : Link) (x : LinkState) (l : Lamps) :
    (putLinkState k x l).phase = l.phase ∧ (putLinkState k x l).cycles = l.cycles := by
  cases k <;> exact ⟨rfl, rfl⟩

@[simp] theorem shelfAt_updateLink (k : Link) (f : LinkState → LinkState) (s : State) (e : Nat) :
    shelfAt (updateLink k f s) e = shelfAt s e := shelfOf_putLinkState _ _ _ _

theorem linkState_updateLink (k i : Link) (f : LinkState → LinkState) (s : State) :
    linkState (updateLink k f s).lamps i = if i = k then f (linkState s.lamps k) else linkState s.lamps i :=
  linkState_putLinkState _ _ _ _

/-- What a link does, where its cursor stands and whether its cadence is due follow no shelf entry. -/
@[simp] theorem linkState_putShelf_keeps (e : Nat) (sh : Shelf) (l : Lamps) (k : Link) :
    (linkState (putShelf e sh l) k).activity = (linkState l k).activity
      ∧ (linkState (putShelf e sh l) k).cursor = (linkState l k).cursor
      ∧ (linkState (putShelf e sh l) k).cadenceDue = (linkState l k).cadenceDue :=
  have h := putShelf_links e sh l k
  ⟨congrArg (·.activity) h, congrArg (·.cursor) h, congrArg (·.cadenceDue) h⟩

theorem isInFlight_congr {s u : State} {e : Nat}
    (h : (linkState u.lamps (linkOf e)).activity = (linkState s.lamps (linkOf e)).activity) :
    isInFlight u e = isInFlight s e := by
  unfold isInFlight
  rw [h]

/-- An exchange is in flight with the shelf whose address its link holds. -/
theorem isInFlight_iff {s : State} {e : Nat} :
    isInFlight s e = true ↔ ∃ x, (linkState s.lamps (linkOf e)).activity = .exchange x ∧ x.addr = e % 96 := by
  unfold isInFlight
  cases (linkState s.lamps (linkOf e)).activity <;> simp

/-! ### Composed images (R131) -/

theorem isDark_iff {s : State} : isDark s = true ↔ s.prun = false ∧ s.control.header.dark = true := by
  simp [isDark]

theorem compose_getElem (dark : Bool) (sh : Shelf) (k : Fin 48) : (compose dark sh)[k] = composedMode dark sh k := by
  simp [compose]

/-! ### Bytes, bits and pairs of bits of a record (section 11) -/

theorem leNat_mod (bs : List Byte) : leNat bs % 256 = leNat (bs.take 1) := by
  cases bs with
  | nil => rfl
  | cons b bs =>
    have hbyte : b.toNat < 256 := b.isLt
    simp only [leNat, List.take_succ_cons, List.take_zero]
    omega

theorem leNat_div (bs : List Byte) (j : Nat) : leNat bs / 256 ^ j = leNat (bs.drop j) := by
  induction j generalizing bs with
  | zero => simp
  | succ j ih =>
    cases bs with
    | nil => simp [leNat]
    | cons b bs =>
      have hbyte : b.toNat < 256 := b.isLt
      have hrest : (b.toNat + 256 * leNat bs) / 256 = leNat bs := by omega
      rw [leNat, Nat.pow_succ', ← Nat.div_div_eq_div_mul, hrest, ih, List.drop_succ_cons]

/-- A field's bytes are the record's, least significant first. -/
theorem fieldOf_byte (b : List Byte) (offset : Nat) {size j : Nat} (hj : j < size) :
    fieldOf b offset size / 256 ^ j % 256 = byteOf b (offset + j) := by
  rw [fieldOf, leNat_div, leNat_mod, byteOf, fieldOf, List.drop_take, List.take_take, List.drop_drop,
    Nat.min_eq_left (by omega)]

/-- A flag of a mask stands in bit k mod 8 of byte k div 8 (section 11.6). -/
theorem maskOf_getLsbD (b : List Byte) (offset : Nat) {k : Nat} (hk : k < 48) :
    (maskOf b offset).getLsbD k = (byteOf b (offset + k / 8)).testBit (k % 8) := by
  rw [← fieldOf_byte b offset (show k / 8 < 6 by omega), show (256 : Nat) = 2 ^ 8 from rfl, ← Nat.pow_mul,
    Nat.testBit_mod_two_pow, Nat.testBit_div_two_pow, Nat.mod_add_div, maskOf, BitVec.getLsbD_ofNat]
  simp [hk, Nat.mod_lt]

/-- Two bits of a packed number lie in one of its chunks of `c` pairs: a byte holds 4, a word 8. -/
theorem pair_of_chunk {c : Nat} (hc : 0 < c) (n k : Nat) :
    n / 4 ^ k % 4 = n / (4 ^ c) ^ (k / c) % 4 ^ c / 4 ^ (k % c) % 4 := by
  have hlt : k % c < c := Nat.mod_lt _ hc
  have hwhere : n / 4 ^ k = n / (4 ^ c) ^ (k / c) / 4 ^ (k % c) := by
    rw [Nat.div_div_eq_div_mul, ← Nat.pow_mul, ← Nat.pow_add, Nat.div_add_mod]
  have hchunk : n / (4 ^ c) ^ (k / c) % 4 ^ c / 4 ^ (k % c)
      = n / (4 ^ c) ^ (k / c) / 4 ^ (k % c) % 4 ^ (c - k % c) := by
    rw [← Nat.mod_mul_right_div_self _ (4 ^ (k % c)), ← Nat.pow_add, Nat.add_sub_cancel' (Nat.le_of_lt hlt)]
  have hdvd : 4 ∣ 4 ^ (c - k % c) := Nat.pow_dvd_pow 4 (show 1 ≤ c - k % c by omega)
  rw [hwhere, hchunk, Nat.mod_mod_of_dvd _ hdvd]

theorem modeCode_modeOfBits (n : Nat) : modeCode (modeOfBits n) = n % 4 := by
  have hcode : n % 4 = 0 ∨ n % 4 = 1 ∨ n % 4 = 2 ∨ n % 4 = 3 := by omega
  rcases hcode with h | h | h | h <;> simp only [modeOfBits, modeCode, h]

/-- The modes of an image lie two bits a lamp (section 11.6). -/
theorem imageOf_getElem (packed : Nat) (k : Fin 48) : modeCode (imageOf packed)[k] = packed / 4 ^ k.val % 4 := by
  rw [imageOf, Fin.getElem_fin, Vector.getElem_ofFn, modeCode_modeOfBits]

/-- The host fields of a shelf entry's record (section 11.6): a mask's flag a bit, a mode two bits a lamp. -/
theorem readShelf_fields (b : List Byte) (k : Fin 48) :
    (readShelf b).watchMask.getLsbD k.val = (byteOf b (4 + k.val / 8)).testBit (k.val % 8)
      ∧ (readShelf b).sourceSelect.getLsbD k.val = (byteOf b (10 + k.val / 8)).testBit (k.val % 8)
      ∧ modeCode (readShelf b).override[k] = byteOf b (16 + k.val / 4) / 4 ^ (k.val % 4) % 4 := by
  refine ⟨maskOf_getLsbD b 4 k.isLt, maskOf_getLsbD b 10 k.isLt, ?_⟩
  rw [← fieldOf_byte b 16 (show k.val / 4 < 12 by omega)]
  exact (imageOf_getElem _ k).trans (pair_of_chunk (c := 4) (by decide) _ _)

/-! ### A valid shelf entry (R130, R159, R160) -/

/-- An orphaned exchange leaves every shelf entry. -/
@[simp] theorem shelfAt_orphanExchange (k : Link) (s : State) (e : Nat) :
    shelfAt (orphanExchange k s) e = shelfAt s e := by
  unfold orphanExchange
  split
  · exact shelfAt_updateLink _ _ _ _
  · rfl

/-- What a link does once the exchange in flight on it is orphaned (R160). -/
def orphanedActivity : Activity → Activity
  | .exchange x => .exchange { x with orphaned := true }
  | a => a

theorem linkState_orphanExchange (k i : Link) (s : State) :
    linkState (orphanExchange k s).lamps i =
      if i = k then { linkState s.lamps k with activity := orphanedActivity (linkState s.lamps k).activity }
      else linkState s.lamps i := by
  unfold orphanExchange
  cases h : (linkState s.lamps k).activity with
  | exchange x => exact linkState_updateLink _ _ _ _
  | _ =>
    by_cases hi : i = k
    · simp [hi, orphanedActivity, ← h]
    · simp [hi]

/-- The entry that a valid shelf entry leaves, but for its image, which is composed of it (R130, R159). -/
def enteredShelf (host : Shelf) (flying : Bool) (now : Nat) (sh : Shelf) : Shelf :=
  { sh with
    configured := host.configured, watchFault := host.watchFault, haltOnMatch := host.haltOnMatch
    haltOnCheck := host.haltOnCheck, watchMask := host.watchMask, sourceSelect := host.sourceSelect
    override := host.override, lastSent := none, invalidated := flying || sh.invalidated
    link := if host.configured then .probing else .unconfigured
    probeAt := if host.configured then some now else none
    misses := 0, watchMatch := false, sequence := 0, powerLow := false }

/-- A valid shelf entry is one change of its entry, and of the exchange in flight with it. -/
theorem writeShelf_eq (e : Nat) (host : Shelf) (s : State) :
    writeShelf e host s =
      if isInFlight s e then
        orphanExchange (linkOf e)
          (updateShelf e (fun sh => recomposed (isDark s) (enteredShelf host (isInFlight s e) s.now sh)) s)
      else updateShelf e (fun sh => recomposed (isDark s) (enteredShelf host (isInFlight s e) s.now sh)) s := rfl

theorem shelfAt_writeShelf (e i : Nat) (host : Shelf) (s : State) :
    shelfAt (writeShelf e host s) i =
      if i = e ∧ e < 192 then recomposed (isDark s) (enteredShelf host (isInFlight s e) s.now (shelfAt s e))
      else shelfAt s i := by
  rw [writeShelf_eq]
  split
  · rw [shelfAt_orphanExchange, shelfAt_updateShelf]
  · rw [shelfAt_updateShelf]

/-- Of the links a valid shelf entry marks the exchange in flight with it, and judges the dirty set. -/
theorem linkState_writeShelf (e : Nat) (host : Shelf) (s : State) (k : Link) :
    (linkState (writeShelf e host s).lamps k).cursor = (linkState s.lamps k).cursor
      ∧ (linkState (writeShelf e host s).lamps k).cadenceDue = (linkState s.lamps k).cadenceDue
      ∧ (linkState (writeShelf e host s).lamps k).activity =
        if isInFlight s e = true ∧ k = linkOf e then orphanedActivity (linkState s.lamps k).activity
        else (linkState s.lamps k).activity := by
  rw [writeShelf_eq]
  by_cases hflying : isInFlight s e = true
  · rw [if_pos hflying, linkState_orphanExchange]
    by_cases hk : k = linkOf e
    · subst hk; simp [hflying]
    · simp [hk]
  · simp [hflying]

theorem orphanExchange_cadence (k : Link) (s : State) :
    (orphanExchange k s).lamps.phase = s.lamps.phase ∧ (orphanExchange k s).lamps.cycles = s.lamps.cycles := by
  unfold orphanExchange
  split
  · exact putLinkState_cadence _ _ _
  · exact ⟨rfl, rfl⟩

theorem writeShelf_cadence (e : Nat) (host : Shelf) (s : State) :
    (writeShelf e host s).lamps.phase = s.lamps.phase ∧ (writeShelf e host s).lamps.cycles = s.lamps.cycles := by
  rw [writeShelf_eq]
  split
  · obtain ⟨hphase, hcycles⟩ := orphanExchange_cadence (linkOf e)
      (updateShelf e (fun sh => recomposed (isDark s) (enteredShelf host (isInFlight s e) s.now sh)) s)
    exact ⟨hphase.trans (putShelf_cadence _ _ _).1, hcycles.trans (putShelf_cadence _ _ _).2⟩
  · exact putShelf_cadence _ _ _

theorem writeShelf_frame (e : Nat) (host : Shelf) (s : State) :
    writeShelf e host s = { s with lamps := (writeShelf e host s).lamps } := by
  apply State.ext <;> simp

/-- A composed image shows OFF under DARK while PRUN is low, else the override or the mapped mode (R131). -/
theorem compose_isDark_getElem (s : State) (sh : Shelf) (k : Fin 48) : (compose (isDark s) sh)[k] =
    if s.prun = false ∧ s.control.header.dark = true then .off
    else if sh.sourceSelect.getLsbD k.val then sh.override[k] else (sh.mapped[k]).getD .off := by
  simp only [compose_getElem, composedMode, isDark_iff]

/-- Settles O36: the entry by `shelfAt_writeShelf`, the exchange by `linkState_writeShelf`, the host fields' bits by
`readShelf_fields`. -/
theorem shelfEntryStartsAfresh : Obligations.ShelfEntryStartsAfresh := by
  intro b e s he h t flying
  obtain ⟨hphase, hcycles⟩ := writeShelf_cadence e h s
  refine ⟨⟨compose (isDark s) (enteredShelf h flying s.now (shelfAt s e)), ?_, fun k => compose_isDark_getElem _ _ k⟩,
    fun i hi => ?_, linkState_writeShelf e h s, writeShelf_frame e h s, hphase, hcycles, rfl, rfl, rfl, isInFlight_iff,
    rfl, readShelf_fields b⟩
  · exact (shelfAt_writeShelf e e h s).trans (if_pos ⟨rfl, he⟩)
  · exact (shelfAt_writeShelf e i h s).trans (if_neg fun hie => hi hie.1)

end Sys2Proof.Machine

namespace Sys2Proof.Machine

/-! ### Every shelf entry changed once (R133, R140) -/

/-- Entries named once each and changed in order, by changes that each reach one entry and read nothing else that such
a change touches: each named entry is changed once, no other changes. -/
theorem shelfAt_forEach {f : Nat → State → State} {g : State → Nat → Shelf → Shelf}
    (hreads : ∀ e s, g (f e s) = g s)
    (hchange : ∀ e i s, shelfAt (f e s) i = if i = e ∧ e < 192 then g s e (shelfAt s e) else shelfAt s i)
    {l : List Nat} (hl : l.Nodup) (s : State) (i : Nat) :
    shelfAt (forEach f l s) i = if i ∈ l ∧ i < 192 then g s i (shelfAt s i) else shelfAt s i := by
  induction l generalizing s with
  | nil => simp [forEach]
  | cons e l ih =>
    obtain ⟨he, hl⟩ := List.nodup_cons.mp hl
    rw [forEach, ih hl, hreads, hchange]
    by_cases hi : i = e
    · subst hi; simp [he]
    · simp [hi]

/-- All 192 entries changed in order. -/
theorem shelfAt_forEach_all {f : Nat → State → State} {g : State → Nat → Shelf → Shelf}
    (hreads : ∀ e s, g (f e s) = g s)
    (hchange : ∀ e i s, shelfAt (f e s) i = if i = e ∧ e < 192 then g s e (shelfAt s e) else shelfAt s i)
    (s : State) (i : Nat) :
    shelfAt (forEach f (List.range 192) s) i = if i < 192 then g s i (shelfAt s i) else shelfAt s i := by
  simp only [shelfAt_forEach hreads hchange List.nodup_range, List.mem_range, and_self]

/-! ### LAMP_REFRESH (R140) -/

/-- What LAMP_REFRESH makes of an entry (R140). -/
def refreshed (s : State) (e : Nat) (sh : Shelf) : Shelf :=
  if sh.configured then { sh with lastSent := none, invalidated := isInFlight s e || sh.invalidated } else sh

theorem refreshed_configured {s : State} {e : Nat} {sh : Shelf} (h : sh.configured = true) :
    refreshed s e sh = { sh with lastSent := none, invalidated := isInFlight s e || sh.invalidated } := if_pos h

theorem refreshed_unconfigured {s : State} {e : Nat} {sh : Shelf} (h : sh.configured = false) :
    refreshed s e sh = sh := if_neg (Bool.eq_false_iff.mp h)

theorem shelfAt_refreshShelf (e i : Nat) (s : State) :
    shelfAt (refreshShelf e s) i = if i = e ∧ e < 192 then refreshed s e (shelfAt s e) else shelfAt s i := by
  unfold refreshShelf
  by_cases hc : (shelfAt s e).configured = true
  · rw [if_pos hc, shelfAt_updateShelf, refreshed_configured hc]
  · rw [if_neg hc, refreshed_unconfigured (Bool.eq_false_iff.mpr hc)]
    split
    · next hi => rw [hi.1]
    · rfl

/-- A refreshed entry leaves the cadence, and the links but for their dirty sets. -/
theorem refreshShelf_links (e : Nat) (s : State) :
    (refreshShelf e s).lamps.phase = s.lamps.phase ∧ (refreshShelf e s).lamps.cycles = s.lamps.cycles
      ∧ ∀ k, { linkState (refreshShelf e s).lamps k with dirty := [] } = { linkState s.lamps k with dirty := [] } := by
  unfold refreshShelf
  split
  · obtain ⟨-, -, hphase, hcycles, hlinks⟩ := updateShelf_only e
      (fun sh => { sh with lastSent := none, invalidated := isInFlight s e || sh.invalidated }) s
    exact ⟨hphase, hcycles, hlinks⟩
  · exact ⟨rfl, rfl, fun _ => rfl⟩

/-- The exchanges in flight stay as they are while entries are refreshed. -/
theorem refreshed_refreshShelf (e : Nat) (s : State) : refreshed (refreshShelf e s) = refreshed s := by
  obtain ⟨-, -, hlinks⟩ := refreshShelf_links e s
  funext i sh
  rw [refreshed, isInFlight_congr (congrArg (·.activity) (hlinks (linkOf i))), refreshed]

theorem shelfAt_refreshAll (s : State) (i : Nat) :
    shelfAt (forEach refreshShelf (List.range 192) s) i
      = if i < 192 then refreshed s i (shelfAt s i) else shelfAt s i :=
  shelfAt_forEach_all refreshed_refreshShelf (fun e i s => shelfAt_refreshShelf e i s) s i

/-- Refreshing leaves all but the shelf entries and the dirty sets. -/
theorem refreshAll_frame (l : List Nat) (s : State) :
    (∀ k, { linkState (forEach refreshShelf l s).lamps k with dirty := [] } = { linkState s.lamps k with dirty := [] })
      ∧ forEach refreshShelf l s = { s with lamps := { s.lamps with
          shelves := (forEach refreshShelf l s).lamps.shelves, linkA := (forEach refreshShelf l s).lamps.linkA
          linkB := (forEach refreshShelf l s).lamps.linkB } } := by
  have hphase := forEach_keeps (·.lamps.phase) refreshShelf (fun e s => (refreshShelf_links e s).1) l s
  have hcycles := forEach_keeps (·.lamps.cycles) refreshShelf (fun e s => (refreshShelf_links e s).2.1) l s
  refine ⟨fun k => forEach_keeps (fun s => { linkState s.lamps k with dirty := [] }) refreshShelf
    (fun e s => (refreshShelf_links e s).2.2 k) l s, ?_⟩
  apply State.ext
  case lamps => dsimp only; rw [← hphase, ← hcycles]
  all_goals simp [forEach_refreshShelf_keeps]

/-- LAMP_REFRESH is the command of code 6 (section 11.4). -/
theorem exec_lampRefresh {offset : Nat} {c : Command} {w : HostWrite} {s : State} (h : CommandWritten offset c w s)
    (hcode : c.code = 6) :
    exec (.lampRefresh w) s = .next (calm (afterCommand offset w (commandRefresh c (commandTaken offset c w s)))) :=
  congrArg Host.Outcome.next (hostArrives_effect h (by omega) fun u => by simp only [takeCommand, hcode])

/-- Settles O41: `shelfAt_refreshAll` gives each entry, `refreshAll_frame` what the refresh leaves. -/
theorem refreshForgetsLastSentImages : Obligations.RefreshForgetsLastSentImages := by
  intro offset c w s h hcode
  obtain ⟨hlinks, hframe⟩ := refreshAll_frame (List.range 192) (commandTaken offset c w s)
  refine ⟨forEach refreshShelf (List.range 192) (commandTaken offset c w s), ?_, fun e he hc => ?_, fun e hc => ?_,
    hlinks, hframe⟩
  · rw [exec_lampRefresh h hcode, commandRefresh, commandDone, hcode]
  · rw [shelfAt_refreshAll, if_pos he, refreshed_configured hc]
  · rw [shelfAt_refreshAll, refreshed_unconfigured hc, ite_self]

/-! ### A change of PRUN (R131, R133, R197) -/

/-- Every entry takes the image that R131 gives it. -/
theorem shelfAt_recomposeAll (s : State) (i : Nat) :
    shelfAt (recomposeAll s) i = if i < 192 then recomposed (isDark s) (shelfAt s i) else shelfAt s i := by
  unfold recomposeAll
  exact shelfAt_forEach_all (f := fun e s => updateShelf e (recomposed (isDark s)) s)
    (g := fun s _ => recomposed (isDark s)) (fun _ _ => rfl) (fun e i s => shelfAt_updateShelf e i _ s) s i

theorem recomposeAll_frame (s : State) : recomposeAll s = { s with lamps := (recomposeAll s).lamps } := by
  apply State.ext <;> simp

/-- Of the entries a recomposition changes the images alone. -/
theorem shelfAt_recomposeAll_image (s : State) (i : Nat) :
    ∃ image : Image, shelfAt (recomposeAll s) i = { shelfAt s i with composed := image }
      ∧ (i < 192 → image = compose (isDark s) (shelfAt s i)) := by
  rw [shelfAt_recomposeAll]
  split
  · exact ⟨_, rfl, fun _ => rfl⟩
  · next hi => exact ⟨_, rfl, fun h => absurd h hi⟩

/-- The part once PRUN has changed while RUNNING, but for the notice (R133). -/
def prunChanged (high : Bool) (s : State) : State :=
  if s.control.header.dark then recomposeAll { s with prun := high } else { s with prun := high }

theorem setPrun_same {high : Bool} {s : State} (h : s.prun = high) : setPrun high s = s := if_pos h

theorem setPrun_notRunning {high : Bool} {s : State} (h : s.prun ≠ high) (hpart : s.part ≠ .running) :
    setPrun high s = { s with prun := high } := by
  rw [setPrun, if_neg h, if_neg hpart]

theorem setPrun_running {high : Bool} {s : State} (h : s.prun ≠ high) (hpart : s.part = .running) :
    setPrun high s = makeReport
      (if high then .procRunning s.control.header.dark else .procStopped s.control.header.dark) none none none none
      (prunChanged high s) := by
  rw [setPrun, if_neg h, if_pos hpart]
  rfl

theorem prunChanged_frame (high : Bool) (s : State) :
    prunChanged high s = { s with prun := high, lamps := (prunChanged high s).lamps } := by
  unfold prunChanged
  split
  · exact recomposeAll_frame _
  · rfl

/-- The three rows of a PRUN change set the level each gives (log 35). -/
theorem exec_prunChange {high : Bool} {c : Instr} (s : State)
    (h : c = .prunChangeNotRunning high ∨ (c = .procRunning ∧ high = true) ∨ (c = .procStopped ∧ high = false)) :
    exec c s = .next (settle (setPrun high s)) := by
  rcases h with rfl | ⟨rfl, rfl⟩ | ⟨rfl, rfl⟩ <;> rfl

/-- Settles O60: under DARK the images are those of `shelfAt_recomposeAll_image`, under any other policy they stay. -/
theorem prunChangeRecomposesAndReports : Obligations.PrunChangeRecomposesAndReports := by
  intro high c s hrow
  rw [exec_prunChange s hrow]
  refine ⟨fun hsame => ?_, fun hchange hpart => ?_, fun hchange hpart => ⟨prunChanged high s, ?_,
    prunChanged_frame high s, fun hdark => ?_, fun e => ?_⟩⟩
  · rw [setPrun_same hsame]
  · rw [setPrun_notRunning hchange hpart]
  · rw [setPrun_running hchange hpart]
  · rw [prunChanged, if_neg (Bool.eq_false_iff.mp hdark)]
  · by_cases hdark : s.control.header.dark = true
    · rw [prunChanged, if_pos hdark]
      obtain ⟨image, hshelf, himage⟩ := shelfAt_recomposeAll_image { s with prun := high } e
      refine ⟨image, hshelf, fun _ he k => ?_⟩
      rw [himage he, compose_isDark_getElem]
      simp only [hdark, and_true]
      rfl
    · rw [prunChanged, if_neg hdark]
      exact ⟨_, rfl, fun h => absurd h hdark⟩

end Sys2Proof.Machine

namespace Sys2Proof.Machine

/-! ### Words of a frame (R144, R200) -/

theorem foldr_append_word (ws : List FrameWord) (w : FrameWord) : (ws ++ [w]).foldr (· + ·) 0 = wordSum ws + w := by
  induction ws with
  | nil => simp [wordSum]
  | cons v ws ih => rw [List.cons_append, List.foldr_cons, ih, wordSum, BitVec.add_assoc]

/-- The check word closes a frame to the sum 0 (R144). -/
theorem sealFrame_sum (ws : List FrameWord) :
    ∃ check, sealFrame ws = ws ++ [check] ∧ (ws ++ [check]).foldr (· + ·) 0 = 0 :=
  ⟨-wordSum ws, rfl, (foldr_append_word ws _).trans (BitVec.add_right_neg _)⟩

theorem wordsOf_length (n v : Nat) : (wordsOf n v).length = n := by
  induction n generalizing v with
  | zero => rfl
  | succ n ih => rw [wordsOf, List.length_cons, ih]

theorem wordsOf_getElem? {n i : Nat} (hi : i < n) (v : Nat) :
    (wordsOf n v)[i]? = some (BitVec.ofNat 16 (v / 65536 ^ i)) := by
  induction n generalizing i v with
  | zero => omega
  | succ n ih =>
    cases i with
    | zero => simp [wordsOf]
    | succ i => rw [wordsOf, List.getElem?_cons_succ, ih (by omega), Nat.div_div_eq_div_mul, Nat.pow_succ']

theorem packModes_pair {ms : List LampMode} {k : Nat} (hk : k < ms.length) :
    packModes ms / 4 ^ k % 4 = modeCode ms[k] := by
  induction ms generalizing k with
  | nil => simp at hk
  | cons m ms ih =>
    have hcode : modeCode m < 4 := by cases m <;> decide
    cases k with
    | zero => simp only [packModes, List.getElem_cons_zero]; omega
    | succ k =>
      have hrest : packModes (m :: ms) / 4 = packModes ms := by simp only [packModes]; omega
      rw [Nat.pow_succ', ← Nat.div_div_eq_div_mul, hrest, ih (by simpa using hk), List.getElem_cons_succ]

/-- A LAMP_SET's words of modes: two bits a lamp, eight lamps a word (section 11.8). -/
theorem modeWord (image : Image) (k : Fin 48) : ∃ w, (wordsOf 6 (packModes image.toList))[k.val / 8]? = some w
    ∧ w.toNat / 4 ^ (k.val % 8) % 4 = modeCode image[k] := by
  refine ⟨_, wordsOf_getElem? (by omega) _, ?_⟩
  calc (BitVec.ofNat 16 (packModes image.toList / 65536 ^ (k.val / 8))).toNat / 4 ^ (k.val % 8) % 4
      = packModes image.toList / 4 ^ k.val % 4 := (pair_of_chunk (c := 8) (by decide) _ _).symm
    _ = modeCode image[k] := by rw [packModes_pair (by simp)]; simp

theorem wordBits_getElem? (w : FrameWord) {j : Nat} (hj : j < 16) : (wordBits w)[j]? = some (w.getLsbD j) := by
  simp [wordBits, hj]

/-- A frame's words go out in ascending order, each least significant bit first (R200). -/
theorem frameBits_getElem? (ws : List FrameWord) (i : Nat) {j : Nat} (hj : j < 16) :
    (frameBits ws)[16 * i + j]? = ws[i]?.map (·.getLsbD j) := by
  induction ws generalizing i with
  | nil => simp
  | cons w ws ih =>
    rw [frameBits_cons]
    cases i with
    | zero =>
      rw [List.getElem?_append_left (by rw [wordBits_length]; omega), Nat.mul_zero, Nat.zero_add,
        wordBits_getElem? w hj]
      rfl
    | succ i =>
      rw [List.getElem?_append_right (by rw [wordBits_length]; omega), wordBits_length,
        show 16 * (i + 1) + j - 16 = 16 * i + j by omega, ih, List.getElem?_cons_succ]

/-! ### The next dirty shelf (R137) -/

/-- The first address after the cursor that passes a test, the search going on from 0 up to the cursor. -/
theorem find?_searchOrder (c a : Nat) (p : Nat → Bool) :
    (searchOrder c).find? p = some a ↔ (a < 96 ∧ p a = true)
      ∧ ((c < a ∧ ∀ b, c < b → b < a → ¬ (b < 96 ∧ p b = true))
        ∨ (a ≤ c ∧ (∀ b, c < b → ¬ (b < 96 ∧ p b = true)) ∧ ∀ b, b < a → ¬ (b < 96 ∧ p b = true))) := by
  rw [searchOrder, List.find?_append, Option.or_eq_some_iff, List.find?_filter, List.find?_filter,
    List.find?_range_eq_some, List.find?_range_eq_none, List.find?_range_eq_some]
  simp only [List.mem_range, Bool.not_eq_true', decide_eq_true_eq, decide_eq_false_iff_not, not_and]
  constructor
  · rintro (⟨⟨hca, hp⟩, ha, hlow⟩ | ⟨hhigh, ⟨hac, hp⟩, ha, hlow⟩)
    · exact ⟨⟨ha, hp⟩, .inl ⟨hca, fun b hcb hba _ => hlow b hba hcb⟩⟩
    · exact ⟨⟨ha, hp⟩, .inr ⟨hac, fun b hcb hb => hhigh b hb hcb, fun b hba _ => hlow b hba (by omega)⟩⟩
  · rintro ⟨⟨ha, hp⟩, ⟨hca, hlow⟩ | ⟨hac, hhigh, hlow⟩⟩
    · exact .inl ⟨⟨hca, hp⟩, ha, fun b hba hcb => hlow b hcb hba (by omega)⟩
    · exact .inr ⟨fun b hb hcb => hhigh b hcb hb, ⟨hac, hp⟩, ha, fun b hba _ => hlow b hba (by omega)⟩

theorem find?_searchOrder_none (c : Nat) (p : Nat → Bool) :
    (searchOrder c).find? p = none ↔ ∀ a, ¬ (a < 96 ∧ p a = true) := by
  simp only [List.find?_eq_none, searchOrder, List.mem_append, List.mem_filter, List.mem_range, decide_eq_true_eq,
    not_and]
  exact ⟨fun h a ha => h a (by omega), fun h a ha => h a (by omega)⟩

/-- An address that the search can stop at: a dirty shelf that is ONLINE (R137). -/
def dirtyOnline (l : Lamps) (k : Link) (a : Nat) : Bool :=
  (linkState l k).dirty.contains a && (shelfOf l (entryOf k a)).link == .online

theorem dirtyOnline_iff {l : Lamps} {k : Link} {a : Nat} : dirtyOnline l k a = true ↔
    a ∈ (linkState l k).dirty ∧ (shelfOf l (entryOf k a)).link = .online := by
  simp [dirtyOnline]

theorem nextDirty_eq (l : Lamps) (k : Link) :
    nextDirty l k = (searchOrder (linkState l k).cursor).find? (dirtyOnline l k) := rfl

theorem nextDirty_lt {l : Lamps} {k : Link} {a : Nat} (h : nextDirty l k = some a) : a < 96 :=
  ((find?_searchOrder _ _ _).mp h).1.1

/-! ### The probe that is due (R151, R152) -/

/-- A shelf's probe moment has been reached. -/
def probeDue (s : State) (e : Nat) : Bool :=
  match (shelfAt s e).probeAt with
  | some t => decide (t ≤ s.now)
  | none => false

theorem probeDue_iff {s : State} {e : Nat} :
    probeDue s e = true ↔ ∃ t, (shelfAt s e).probeAt = some t ∧ t ≤ s.now := by
  unfold probeDue
  cases (shelfAt s e).probeAt <;> simp

theorem probeDue_eq_false {s : State} {e : Nat} :
    probeDue s e = false ↔ ∀ t, (shelfAt s e).probeAt = some t → s.now < t := by
  simp [← Bool.not_eq_true, probeDue_iff]

theorem dueProbe_eq (s : State) (k : Link) :
    dueProbe s k = (List.range 96).find? fun a => probeDue s (entryOf k a) := rfl

theorem dueProbe_eq_some {s : State} {k : Link} {a : Nat} : dueProbe s k = some a ↔
    a < 96 ∧ probeDue s (entryOf k a) = true ∧ ∀ b, b < a → probeDue s (entryOf k b) = false := by
  simp [dueProbe_eq, and_left_comm]

theorem dueProbe_eq_none {s : State} {k : Link} :
    dueProbe s k = none ↔ ∀ a, a < 96 → probeDue s (entryOf k a) = false := by
  simp [dueProbe_eq]

/-! ### What sending a frame leaves (R145, R146, R148) -/

theorem entryOf_lt (k : Link) {a : Nat} (ha : a < 96) : entryOf k a < 192 := by
  cases k <;> simp only [entryOf] <;> omega

theorem linkOf_entryOf (k : Link) {a : Nat} (ha : a < 96) : linkOf (entryOf k a) = k := by
  cases k with
  | a => exact if_pos ha
  | b => exact if_neg (Nat.not_lt.mpr (Nat.le_add_right 96 a))

/-- A change of an entry leaves the other link, its dirty set too. -/
theorem linkState_putShelf_other {e : Nat} {i : Link} (hi : i ≠ linkOf e) (sh : Shelf) (l : Lamps) :
    linkState (putShelf e sh l) i = linkState l i := by
  unfold putShelf
  split
  · rw [linkState_putLinkState, if_neg hi]
    cases i <;> rfl
  · rfl

/-- Of the part only one link, and the shelf entries that are not kept, can differ. -/
def OnlyLinkChanges (k : Link) (kept : Nat → Prop) (s u : State) : Prop :=
  u = { s with lamps := u.lamps } ∧ u.lamps.phase = s.lamps.phase ∧ u.lamps.cycles = s.lamps.cycles
    ∧ (∀ i, i ≠ k → linkState u.lamps i = linkState s.lamps i) ∧ ∀ e, kept e → shelfAt u e = shelfAt s e

theorem OnlyLinkChanges.updateLink (k : Link) (f : LinkState → LinkState) (s : State) :
    OnlyLinkChanges k (fun _ => True) s (updateLink k f s) := by
  obtain ⟨hphase, hcycles⟩ := putLinkState_cadence k (f (linkState s.lamps k)) s.lamps
  exact ⟨rfl, hphase, hcycles, fun i hi => (linkState_updateLink k i f s).trans (if_neg hi),
    fun e _ => shelfAt_updateLink k f s e⟩

theorem OnlyLinkChanges.updateShelf (k : Link) {a : Nat} (ha : a < 96) (f : Shelf → Shelf) (s : State) :
    OnlyLinkChanges k (fun e => e ≠ entryOf k a) s (updateShelf (entryOf k a) f s) := by
  obtain ⟨hframe, hothers, hphase, hcycles, -⟩ := updateShelf_only (entryOf k a) f s
  exact ⟨hframe, hphase, hcycles,
    fun i hi => linkState_putShelf_other (fun h => hi (h.trans (linkOf_entryOf k ha))) _ _, hothers⟩

theorem OnlyLinkChanges.trans {k : Link} {kept kept' : Nat → Prop} {s u v : State} (h : OnlyLinkChanges k kept s u)
    (h' : OnlyLinkChanges k kept' u v) : OnlyLinkChanges k (fun e => kept e ∧ kept' e) s v := by
  obtain ⟨hframe, hphase, hcycles, hlinks, hshelves⟩ := h
  obtain ⟨hframe', hphase', hcycles', hlinks', hshelves'⟩ := h'
  refine ⟨?_, hphase'.trans hphase, hcycles'.trans hcycles, fun i hi => (hlinks' i hi).trans (hlinks i hi),
    fun e he => (hshelves' e he.2).trans (hshelves e he.1)⟩
  rw [hframe', hframe]

/-- A frame to a shelf changes its entry and its link. -/
theorem OnlyLinkChanges.send (k : Link) {a : Nat} (ha : a < 96) (f : LinkState → LinkState) (g : Shelf → Shelf)
    (s : State) : OnlyLinkChanges k (fun e => e ≠ entryOf k a) s
      (Machine.updateLink k f (Machine.updateShelf (entryOf k a) g s)) := by
  obtain ⟨hframe, hphase, hcycles, hlinks, hshelves⟩ :=
    (OnlyLinkChanges.updateShelf k ha g s).trans (.updateLink k f _)
  exact ⟨hframe, hphase, hcycles, hlinks, fun e he => hshelves e ⟨he, trivial⟩⟩

theorem shelfAt_send (k : Link) {a : Nat} (ha : a < 96) (f : LinkState → LinkState) (g : Shelf → Shelf) (s : State) :
    shelfAt (updateLink k f (updateShelf (entryOf k a) g s)) (entryOf k a) = g (shelfAt s (entryOf k a)) := by
  rw [shelfAt_updateLink, shelfAt_updateShelf, if_pos ⟨rfl, entryOf_lt k ha⟩]

theorem linkState_send (k : Link) (e : Nat) (f : LinkState → LinkState) (g : Shelf → Shelf) (s : State) :
    linkState (updateLink k f (updateShelf e g s)).lamps k
      = f { linkState s.lamps k with dirty := (linkState (updateShelf e g s).lamps k).dirty } :=
  (linkState_updateLink k k f _).trans ((if_pos rfl).trans (congrArg f (linkState_updateShelf e k g s)))

theorem sendCadence_leaves (k : Link) (s : State) :
    linkState (sendCadence k s).lamps k = { linkState s.lamps k with
        activity := .cadence (cadenceFrame s.lamps.phase), cadenceDue := false }
      ∧ OnlyLinkChanges k (fun _ => True) s (sendCadence k s) :=
  ⟨(linkState_updateLink k k _ s).trans (if_pos rfl), .updateLink k _ s⟩

/-- A LAMP_SET carries the composed image and the advanced sequence; the cursor stands at its shelf (R137, R145). -/
theorem sendLampSet_leaves (k : Link) {a : Nat} (ha : a < 96) (s : State) :
    let sh := shelfAt s (entryOf k a)
    let n := nextSequence sh.sequence
    shelfAt (sendLampSet k a s) (entryOf k a) = { sh with sequence := n }
      ∧ { linkState (sendLampSet k a s).lamps k with dirty := [] } = { linkState s.lamps k with
          dirty := [], cursor := a
          activity := .exchange ⟨.lampSet, a, n, some sh.composed, lampSetFrame a n sh.composed, .sending, false⟩ }
      ∧ OnlyLinkChanges k (fun e => e ≠ entryOf k a) s (sendLampSet k a s) := by
  unfold sendLampSet
  refine ⟨shelfAt_send k ha _ _ s, ?_, .send k ha _ _ s⟩
  rw [linkState_send]

/-- A PROBE takes the probe moment that was reached (R146, R152). -/
theorem sendProbe_leaves (k : Link) {a : Nat} (ha : a < 96) (s : State) :
    shelfAt (sendProbe k a s) (entryOf k a) = { shelfAt s (entryOf k a) with probeAt := none }
      ∧ { linkState (sendProbe k a s).lamps k with dirty := [] } = { linkState s.lamps k with
          dirty := [], activity := .exchange ⟨.probe, a, 0, none, probeFrame a, .sending, false⟩ }
      ∧ OnlyLinkChanges k (fun e => e ≠ entryOf k a) s (sendProbe k a s) := by
  unfold sendProbe setActivity
  refine ⟨shelfAt_send k ha _ _ s, ?_, .send k ha _ _ s⟩
  rw [linkState_send]

/-! ### The arbiter's choice (R151) -/

section
variable {k : Link} {s : State}

theorem chooseLink_waits (h : s.part ≠ .running ∨ (linkState s.lamps k).activity ≠ .idle) : chooseLink k s = s :=
  if_neg fun hfree => h.elim (· hfree.1) (· hfree.2)

theorem chooseFrame_cadence (hdue : (linkState s.lamps k).cadenceDue = true) : chooseFrame k s = sendCadence k s :=
  if_pos hdue

variable (hdue : (linkState s.lamps k).cadenceDue = false)
include hdue

theorem chooseFrame_lampSet {a : Nat} (hnext : nextDirty s.lamps k = some a) :
    chooseFrame k s = sendLampSet k a s := by
  simp [chooseFrame, hdue, hnext]

theorem chooseFrame_probe {a : Nat} (hnext : nextDirty s.lamps k = none) (hprobe : dueProbe s k = some a) :
    chooseFrame k s = sendProbe k a s := by
  simp [chooseFrame, hdue, hnext, hprobe]

theorem chooseFrame_none (hnext : nextDirty s.lamps k = none) (hprobe : dueProbe s k = none) :
    chooseFrame k s = s := by
  simp [chooseFrame, hdue, hnext, hprobe]

end

theorem chooseLink_free {k : Link} {s : State} (hpart : s.part = .running)
    (hidle : (linkState s.lamps k).activity = .idle) : chooseLink k s = chooseFrame k s := if_pos ⟨hpart, hidle⟩

theorem chooseLink_none {k : Link} {s : State} (hdue : (linkState s.lamps k).cadenceDue = false)
    (hnext : nextDirty s.lamps k = none) (hprobe : dueProbe s k = none) : chooseLink k s = s := by
  unfold chooseLink
  rw [chooseFrame_none hdue hnext hprobe, ite_self]

/-- What a link puts out (R200). -/
theorem linkBits_cases (k : Link) (s : State) :
    ((linkState s.lamps k).activity = .idle → linkBits k s = [])
      ∧ (∀ words, (linkState s.lamps k).activity = .cadence words → linkBits k s = frameBits words)
      ∧ (∀ x, (linkState s.lamps k).activity = .exchange x →
          linkBits k s = if x.timer = .sending then frameBits x.words else []) := by
  refine ⟨fun h => ?_, fun words h => ?_, fun x h => ?_⟩ <;> simp only [linkBits, h]

/-- Settles O50: the arbiter's order by the `chooseFrame` lemmas, what a choice leaves by `OnlyLinkChanges`, the search
by `find?_searchOrder`, the bits by `frameBits_getElem?`. -/
theorem linkChoosesItsFrame : Obligations.LinkChoosesItsFrame := by
  refine ⟨fun k s => ?_, fun words image i j => ⟨sealFrame_sum words, wordsOf_length _ _, modeWord image,
    frameBits_length words, frameBits_getElem? words i⟩, linkBits_cases, fun l k => ?_⟩
  · intro x u moved others
    refine ⟨chooseLink_waits, fun hdue hnext hlater => ?_, fun hpart hidle hdue => ?_,
      fun a hpart hidle hdue hnext => ?_, fun a t hpart hidle hdue hnext ha hmoment hreached hlowest => ?_⟩
    · have hprobe : dueProbe s k = none :=
        dueProbe_eq_none.mpr fun a ha => probeDue_eq_false.mpr fun t => hlater a t ha
      exact chooseLink_none hdue hnext hprobe
    · have hu : u = sendCadence k s := (chooseLink_free hpart hidle).trans (chooseFrame_cadence hdue)
      show linkState u.lamps k = _ ∧ OnlyLinkChanges k (fun _ => True) s u
      rw [hu]
      exact sendCadence_leaves k s
    · have ha : a < 96 := nextDirty_lt hnext
      have hu : u = sendLampSet k a s := (chooseLink_free hpart hidle).trans (chooseFrame_lampSet hdue hnext)
      show shelfAt u (entryOf k a) = _ ∧ { linkState u.lamps k with dirty := [] } = _
        ∧ OnlyLinkChanges k (fun e => e ≠ entryOf k a) s u
      rw [hu]
      exact sendLampSet_leaves k ha s
    · have hprobe : dueProbe s k = some a := dueProbe_eq_some.mpr
        ⟨ha, probeDue_iff.mpr ⟨t, hmoment, hreached⟩, fun b hb => probeDue_eq_false.mpr fun t' => hlowest b t' hb⟩
      have hu : u = sendProbe k a s := (chooseLink_free hpart hidle).trans (chooseFrame_probe hdue hnext hprobe)
      show shelfAt u (entryOf k a) = _ ∧ { linkState u.lamps k with dirty := [] } = _
        ∧ OnlyLinkChanges k (fun e => e ≠ entryOf k a) s u
      rw [hu]
      exact sendProbe_leaves k ha s
  · intro c wanted
    have hwanted : ∀ b, wanted b ↔ b < 96 ∧ dirtyOnline l k b = true :=
      fun b => and_congr_right fun _ => dirtyOnline_iff.symm
    simp only [hwanted]
    exact ⟨fun a => find?_searchOrder c a _, find?_searchOrder_none c _⟩

end Sys2Proof.Machine

namespace Sys2Proof.Machine

/-! ### One link's activity, one shelf entry (R150, R151) -/

/-- What a link does is changed: its cursor, its dirty set and its cadence stay, the other link and every entry too. -/
theorem setActivity_leaves (k : Link) (a : Activity) (s : State) :
    setActivity k a s = { s with lamps := (setActivity k a s).lamps }
      ∧ linkState (setActivity k a s).lamps k = { linkState s.lamps k with activity := a }
      ∧ (setActivity k a s).lamps.shelves = s.lamps.shelves
      ∧ ∀ i, i ≠ k → linkState (setActivity k a s).lamps i = linkState s.lamps i := by
  have hlink := fun i => linkState_updateLink k i (fun x => { x with activity := a }) s
  refine ⟨rfl, (hlink k).trans (if_pos rfl), ?_, fun i hi => (hlink i).trans (if_neg hi)⟩
  cases k <;> rfl

/-- A changed entry of the table holds its new record, and no other entry changes. -/
theorem updateShelf_leaves {e : Nat} (he : e < 192) (f : Shelf → Shelf) (s : State) :
    shelfAt (updateShelf e f s) e = f (shelfAt s e)
      ∧ updateShelf e f s = { s with lamps := (updateShelf e f s).lamps }
      ∧ OnlyShelfChanges e s (updateShelf e f s) :=
  ⟨(shelfAt_updateShelf e e f s).trans (if_pos ⟨rfl, he⟩), updateShelf_only e f s⟩

/-- A change outside the lamps' half. -/
theorem OnlyShelfChanges.of_lamps {e : Nat} {s u : State} (h : u.lamps = s.lamps) : OnlyShelfChanges e s u := by
  unfold OnlyShelfChanges shelfAt
  rw [h]
  exact ⟨fun _ _ => rfl, rfl, rfl, fun _ => rfl⟩

theorem OnlyShelfChanges.trans {e : Nat} {s u v : State} (h : OnlyShelfChanges e s u) (h' : OnlyShelfChanges e u v) :
    OnlyShelfChanges e s v := by
  obtain ⟨hshelves, hphase, hcycles, hlinks⟩ := h
  obtain ⟨hshelves', hphase', hcycles', hlinks'⟩ := h'
  exact ⟨fun i hi => (hshelves' i hi).trans (hshelves i hi), hphase'.trans hphase, hcycles'.trans hcycles,
    fun k => (hlinks' k).trans (hlinks k)⟩

theorem OnlyShelfChanges.updateShelf (e : Nat) (f : Shelf → Shelf) (s : State) :
    OnlyShelfChanges e s (updateShelf e f s) := (updateShelf_only e f s).2

theorem shelfAt_reportShelf (e i : Nat) (body : ReportBody) (s : State) :
    shelfAt (reportShelf e body s) i = shelfAt s i := by
  unfold shelfAt
  simp

/-! ### Ends of frames and the reply timeout (R148, R150, R151) -/

/-- A time in microseconds as CLK32 cycles, rounded up (R150). -/
theorem timeoutCycles_eq (us : Nat) : Config.timeoutCycles us = (32768 * us + 999999) / 1000000 := rfl

theorem reachMoment_eq (t : Nat) (s : State) : reachMoment t s = { s with now := max s.now t } := by
  unfold reachMoment
  congr 1
  split <;> omega

section
variable {k : Link} {s : State}

theorem probeReached_moment {e t : Nat} (h : (shelfAt s e).probeAt = some t) :
    probeReached e s = { s with now := max s.now t } := by
  simp only [probeReached, h, reachMoment_eq]

theorem frameEnded_cadence {words : List FrameWord} (h : (linkState s.lamps k).activity = .cadence words) :
    frameEnded k s = setActivity k .idle s := by
  simp only [frameEnded, h]

variable {x : Exchange} (hx : (linkState s.lamps k).activity = .exchange x)
include hx

theorem frameEnded_exchange (htimer : x.timer = .sending) :
    frameEnded k s = setActivity k (.exchange { x with
      timer := .waiting (s.now + Config.timeoutCycles s.control.header.replyTimeout) }) s := by
  simp only [frameEnded, hx, htimer, if_true]

theorem replyBegins_waiting {t : Nat} (htimer : x.timer = .waiting t) :
    replyBegins k s = setActivity k (.exchange { x with timer := .suspended (t - s.now) }) s := by
  simp only [replyBegins, hx, htimer]

end

theorem exec_probeMomentReached (e : Nat) (s : State) :
    exec (.probeMomentReached e) s = .next (settle (probeReached e s)) := rfl

theorem exec_frameEnd (k : Link) (s : State) : exec (.frameEnd k) s = .next (settle (frameEnded k s)) := rfl

theorem exec_replyFirstWord (k : Link) (s : State) :
    exec (.replyFirstWord k) s = .next (settle (replyBegins k s)) := rfl

/-- Settles O51: each event is one change of what its link does, and `setActivity_leaves` gives the rest. -/
theorem framesEndAndTimersRun : Obligations.FramesEndAndTimersRun := by
  intro k e s
  refine ⟨fun t hmoment => ?_, fun ws hx => ?_, fun x hx htimer => ?_, fun x t hx htimer => ?_⟩
  · rw [exec_probeMomentReached, probeReached_moment hmoment]
  · exact ⟨setActivity k .idle s, by rw [exec_frameEnd, frameEnded_cadence hx], setActivity_leaves k _ s⟩
  · exact ⟨setActivity k _ s, by rw [exec_frameEnd, frameEnded_exchange hx htimer, timeoutCycles_eq],
      setActivity_leaves k _ s⟩
  · exact ⟨setActivity k _ s, by rw [exec_replyFirstWord, replyBegins_waiting hx htimer], setActivity_leaves k _ s⟩

/-! ### The watch (R158, R159) -/

theorem haltShelf_eq (e : Nat) (cause : HaltCause) (s : State) :
    haltShelf e cause s = makeReport (.shelfHalted (shelfAt s e).powerLow cause) none none (some e) none
      (updateShelf e (fun sh => { sh with link := .halted, probeAt := none }) s) := rfl

theorem OnlyShelfChanges.haltShelf (e : Nat) (cause : HaltCause) (s : State) :
    OnlyShelfChanges e s (haltShelf e cause s) :=
  .trans (.updateShelf e (fun sh => { sh with link := .halted, probeAt := none }) s)
    (.of_lamps (by simp only [haltShelf_eq, makeReport_keeps]))

section
variable {e : Nat} {r : Reply} {s : State}

theorem judgeWatch_unmatched (h : watchMatches (shelfAt s e) r.faults = []) :
    judgeWatch e r s = updateShelf e (fun sh => { sh with watchMatch := false }) s := by
  simp only [judgeWatch, h]

theorem judgeWatch_matchedBefore (h : watchMatches (shelfAt s e) r.faults ≠ [])
    (hbefore : (shelfAt s e).watchMatch = true) : judgeWatch e r s = s := by
  cases hlamps : watchMatches (shelfAt s e) r.faults with
  | nil => exact absurd hlamps h
  | cons lamp others => simp only [judgeWatch, hlamps, hbefore, if_true]

/-- The part once a first match of the watch has been reported (R158). -/
def watchReported (e lamp matching : Nat) (s : State) : State :=
  makeReport (.shelfWatch (shelfAt s e).powerLow lamp matching) none none (some e) none
    (updateShelf e (fun sh => { sh with watchMatch := true }) s)

variable {lamp : Nat} {others : List Nat} (h : watchMatches (shelfAt s e) r.faults = lamp :: others)
  (hfirst : (shelfAt s e).watchMatch = false)
include h hfirst

theorem judgeWatch_firstMatch (hhalt : (shelfAt s e).haltOnMatch = false) :
    judgeWatch e r s = watchReported e lamp (others.length + 1) s := by
  simp only [judgeWatch, h, hfirst, hhalt, Bool.false_eq_true, if_false, List.length_cons]
  rfl

theorem judgeWatch_firstMatch_halts (hhalt : (shelfAt s e).haltOnMatch = true) :
    judgeWatch e r s = haltShelf e .watch (watchReported e lamp (others.length + 1) s) := by
  simp only [judgeWatch, h, hfirst, hhalt, Bool.false_eq_true, if_false, if_true, List.length_cons]
  rfl

end

theorem shelfAt_watchReported {e : Nat} (he : e < 192) (lamp matching : Nat) (s : State) :
    shelfAt (watchReported e lamp matching s) e = { shelfAt s e with watchMatch := true } :=
  (shelfAt_reportShelf e e _ _).trans (updateShelf_leaves he _ s).1

/-- A report of a shelf does not depend on the shelf entries. -/
theorem watchReported_reports (e lamp matching : Nat) (s : State) :
    (watchReported e lamp matching s).reports
      = (makeReport (.shelfWatch (shelfAt s e).powerLow lamp matching) none none (some e) none s).reports :=
  makeReport_reports_congr (updateShelf_part e _ s) (updateShelf_reports e _ s) (updateShelf_calendar e _ s) _ _ _ _

theorem shelfAt_haltShelf {e : Nat} (he : e < 192) (cause : HaltCause) (s : State) :
    shelfAt (haltShelf e cause s) e = { shelfAt s e with link := .halted, probeAt := none } :=
  (shelfAt_reportShelf e e _ _).trans (updateShelf_leaves he _ s).1

theorem haltShelf_reports (e : Nat) (cause : HaltCause) (s : State) :
    (haltShelf e cause s).reports
      = (makeReport (.shelfHalted (shelfAt s e).powerLow cause) none none (some e) none s).reports :=
  makeReport_reports_congr (updateShelf_part e _ s) (updateShelf_reports e _ s) (updateShelf_calendar e _ s) _ _ _ _

theorem OnlyShelfChanges.watchReported (e lamp matching : Nat) (s : State) :
    OnlyShelfChanges e s (watchReported e lamp matching s) :=
  .trans (.updateShelf e (fun sh => { sh with watchMatch := true }) s)
    (.of_lamps (by simp only [Machine.watchReported, makeReport_keeps]))

/-- The judgement of the watch changes the one entry and the reports alone. -/
theorem judgeWatch_frame (e : Nat) (r : Reply) (s : State) :
    judgeWatch e r s = { s with lamps := (judgeWatch e r s).lamps, reports := (judgeWatch e r s).reports } := by
  apply State.ext <;> simp

theorem OnlyShelfChanges.judgeWatch (e : Nat) (r : Reply) (s : State) : OnlyShelfChanges e s (judgeWatch e r s) := by
  cases hlamps : watchMatches (shelfAt s e) r.faults with
  | nil => rw [judgeWatch_unmatched hlamps]; exact .updateShelf e _ s
  | cons lamp others =>
    cases hbefore : (shelfAt s e).watchMatch with
    | true =>
      rw [judgeWatch_matchedBefore (by rw [hlamps]; exact List.cons_ne_nil _ _) hbefore]
      exact .of_lamps rfl
    | false =>
      have hreported := OnlyShelfChanges.watchReported e lamp (others.length + 1) s
      cases hhalt : (shelfAt s e).haltOnMatch with
      | false => rw [judgeWatch_firstMatch hlamps hbefore hhalt]; exact hreported
      | true =>
        rw [judgeWatch_firstMatch_halts hlamps hbefore hhalt]
        exact hreported.trans (.haltShelf e .watch _)

/-- Settles O54: the four ways of the watch by the `judgeWatch` lemmas, its frame by `OnlyShelfChanges.judgeWatch`. -/
theorem watchMatchIsReportedOnce : Obligations.WatchMatchIsReportedOnce := by
  intro e r s he sh lamps u
  refine ⟨judgeWatch_frame e r s, .judgeWatch e r s, fun hnone => ?_, fun hsome hbefore => ?_,
    fun lamp others hlamps hfirst hhalt => ?_, fun lamp others hlamps hfirst hhalt => ?_⟩
  · rw [judgeWatch_unmatched hnone]
    exact ⟨(updateShelf_leaves he _ s).1, rfl⟩
  · exact judgeWatch_matchedBefore hsome hbefore
  · rw [judgeWatch_firstMatch hlamps hfirst hhalt]
    exact ⟨shelfAt_watchReported he _ _ s, watchReported_reports _ _ _ s⟩
  · rw [judgeWatch_firstMatch_halts hlamps hfirst hhalt, shelfAt_haltShelf he, haltShelf_reports,
      shelfAt_watchReported he]
    refine ⟨rfl, makeReport_reports_congr ?_ (watchReported_reports _ _ _ s) ?_ _ _ _ _⟩
    · simp only [watchReported, makeReport_keeps, updateShelf_part]
    · simp only [watchReported, makeReport_keeps, updateShelf_calendar]

end Sys2Proof.Machine

namespace Sys2Proof.Machine

/-! ### A miss, a check error, an orphaned exchange (R156, R157, R160) -/

/-- What a miss makes of an entry whose next probe moment is given (R157): three misses make it LOST. -/
def missed (later : Option Nat) (sh : Shelf) : Shelf :=
  { sh with
    invalidated := false
    lastSent := if sh.invalidated then none else sh.lastSent
    misses := min 3 (sh.misses + 1)
    probeAt := later
    link := if 3 ≤ sh.misses + 1 ∧ sh.link ≠ .lost then .lost else sh.link }

/-- A miss changes its entry, and is reported where it makes a shelf LOST that was not. -/
theorem missShelf_eq (e : Nat) (s : State) :
    missShelf e s =
      if 3 ≤ (shelfAt s e).misses + 1 ∧ (shelfAt s e).link ≠ .lost then
        makeReport (.shelfLost (shelfAt s e).powerLow (shelfAt s e).link) none none (some e) none
          (updateShelf e (missed (probeLater s)) s)
      else updateShelf e (missed (probeLater s)) s := by
  have hcount : (if 3 ≤ (shelfAt s e).misses + 1 then 3 else (shelfAt s e).misses + 1)
      = min 3 ((shelfAt s e).misses + 1) := rfl
  have hlost : (decide (min 3 ((shelfAt s e).misses + 1) = 3) && (shelfAt s e).link != .lost) = true
      ↔ 3 ≤ (shelfAt s e).misses + 1 ∧ (shelfAt s e).link ≠ .lost := by
    rw [Bool.and_eq_true, decide_eq_true_eq, bne_iff_ne]
    exact and_congr_left' (by omega)
  unfold missShelf
  simp only [hcount, hlost]
  rfl

theorem checkErrorShelf_misses {e : Nat} {s : State} (h : (shelfAt s e).haltOnCheck = false) :
    checkErrorShelf e s = missShelf e s := if_neg (Bool.eq_false_iff.mp h)

/-- A check error that halts its shelf leaves the entry changed and SHELF_HALTED made (R156, R159). -/
theorem checkErrorShelf_halts {e : Nat} (he : e < 192) {s : State} (h : (shelfAt s e).haltOnCheck = true) :
    ∃ u, checkErrorShelf e s
        = makeReport (.shelfHalted (shelfAt s e).powerLow .checkError) none none (some e) none u
      ∧ shelfAt u e = { shelfAt s e with
          invalidated := false, lastSent := if (shelfAt s e).invalidated then none else (shelfAt s e).lastSent
          link := .halted, probeAt := none }
      ∧ u = { s with lamps := u.lamps } ∧ OnlyShelfChanges e s u := by
  obtain ⟨hforgets, -, hothers⟩ := updateShelf_leaves he (fun sh => { sh with
    invalidated := false, lastSent := if sh.invalidated then none else sh.lastSent }) s
  obtain ⟨hhalts, -, hothers'⟩ := updateShelf_leaves he (fun sh => { sh with link := .halted, probeAt := none })
    (updateShelf e (fun sh => { sh with
      invalidated := false, lastSent := if sh.invalidated then none else sh.lastSent }) s)
  refine ⟨_, ?_, hhalts.trans (by rw [hforgets]), rfl, hothers.trans hothers'⟩
  rw [checkErrorShelf, if_pos h, haltShelf_eq, hforgets]

/-! ### The reply timeout (R150, R157, R160) -/

theorem replyExpired_waiting {k : Link} {x : Exchange} {t : Nat} {s : State} (hpart : s.part = .running)
    (hx : (linkState s.lamps k).activity = .exchange x) (htimer : x.timer = .waiting t) :
    replyExpired k s = setActivity k .idle
      (if x.orphaned then orphanOutcome (entryOf k x.addr) { s with now := max s.now t }
        else missShelf (entryOf k x.addr) { s with now := max s.now t }) := by
  simp only [replyExpired, hx, htimer, hpart, if_true, reachMoment_eq]

theorem exec_replyTimeout (k : Link) (s : State) :
    exec (.replyTimeout k) s = .next (settle (replyExpired k s)) := rfl

/-- Settles O55: the miss is `missShelf_eq` at the moment the clock stands at, the orphaned exchange one change of its
entry. -/
theorem timeoutIsAMiss : Obligations.TimeoutIsAMiss := by
  intro k x t s hpart hx htimer haddr e sh
  have he : e < 192 := entryOf_lt k haddr
  rw [exec_replyTimeout, replyExpired_waiting hpart hx htimer]
  refine ⟨fun horphan => ?_, fun horphan => ?_⟩
  · rw [if_pos horphan]
    exact ⟨orphanOutcome e { s with now := max s.now t }, rfl,
      updateShelf_leaves he (fun sh => { sh with invalidated := false }) { s with now := max s.now t }⟩
  · rw [if_neg (Bool.eq_false_iff.mp horphan), missShelf_eq]
    exact ⟨updateShelf e _ { s with now := max s.now t }, rfl, updateShelf_leaves he _ { s with now := max s.now t }⟩

/-! ### A reply taken (R153 to R155) -/

section
variable {k : Link} {words : List FrameWord} {s : State}

/-- A reply on a link that awaits none is discarded (R153). -/
theorem replyTaken_notAwaited
    (h : s.part ≠ .running ∨ ∀ x, (linkState s.lamps k).activity = .exchange x → x.timer = .sending) :
    replyTaken k words s = s := by
  unfold replyTaken
  split
  · next x hx => exact if_pos (h.imp_right fun hsending => by simp [isWaiting, hsending x hx])
  · rfl

variable {x : Exchange} (hpart : s.part = .running) (hx : (linkState s.lamps k).activity = .exchange x)
  (htimer : x.timer ≠ .sending)
include hpart hx htimer

theorem replyTaken_checkError (hread : readReply words = none) :
    replyTaken k words s = setActivity k .idle
      (if x.orphaned then orphanOutcome (entryOf k x.addr) s else checkErrorShelf (entryOf k x.addr) s) := by
  simp [replyTaken, hx, hpart, isWaiting, htimer, hread]

variable {r : Reply} (hread : readReply words = some r)
include hread

theorem replyTaken_discarded (hother : r.addr ≠ x.addr ∨ r.echo ≠ x.sequence) :
    replyTaken k words s = discardReply k x s := by
  simp [replyTaken, hx, hpart, isWaiting, htimer, hread, hother]

theorem replyTaken_answers (haddr : r.addr = x.addr) (hecho : r.echo = x.sequence) :
    replyTaken k words s = setActivity k .idle
      (if x.orphaned then orphanOutcome (entryOf k x.addr) s else goodReply (entryOf k x.addr) x r s) := by
  simp [replyTaken, hx, hpart, isWaiting, htimer, hread, haddr, hecho]

end

theorem exec_replyReceived (k : Link) (bits : List Bool) (s : State) :
    exec (.replyReceived k bits) s = .next (settle (replyTaken k (framed bits) s)) := rfl

/-! ### A good reply (R147, R154, R155) -/

/-- What a good reply makes of an ONLINE entry, its watch apart (R155). -/
def confirmed (x : Exchange) (r : Reply) (later : Option Nat) (sh : Shelf) : Shelf :=
  { sh with
    misses := 0, powerLow := r.powerLow, probeAt := later, lastSent := sentAfter sh x r, invalidated := false }

section
variable {e : Nat} {x : Exchange} {r : Reply} {s : State}

/-- A PROBING or LOST shelf comes ONLINE (R154). -/
theorem goodReply_brings (h : (shelfAt s e).link ≠ .online) :
    goodReply e x r s = judgeWatch e r
      (makeReport (.shelfOnline r.powerLow (shelfAt s e).link) none none (some e) none
        (updateShelf e (fun sh => { sh with
          link := .online, misses := 0, lastSent := none, invalidated := false
          powerLow := r.powerLow, probeAt := probeLater s }) s)) := by
  rw [goodReply, if_neg h]
  rfl

variable (honline : (shelfAt s e).link = .online)
include honline

/-- The checksum expected is the one received, or none is expected (R155). -/
theorem goodReply_confirms (hsum : ∀ c, expectedChecksum (shelfAt s e) x = some c → r.checksum = c) :
    goodReply e x r s = judgeWatch e r (updateShelf e (confirmed x r (probeLater s)) s) := by
  have hconfirms : shelfConfirms e x r s = updateShelf e (confirmed x r (probeLater s)) s := by
    unfold shelfConfirms
    dsimp only
    split
    · rfl
    · next c hc => exact if_pos (hsum c hc)
  rw [goodReply, if_pos honline, hconfirms]

theorem goodReply_mismatches {c : Nat} (hc : expectedChecksum (shelfAt s e) x = some c) (hsum : r.checksum ≠ c) :
    goodReply e x r s = judgeWatch e r
      (makeReport (.shelfImageMismatch r.powerLow x.kind c r.checksum) none none (some e) none
        (updateShelf e (confirmed x r (probeLater s)) s)) := by
  have hconfirms : shelfConfirms e x r s = reportShelf e (.shelfImageMismatch r.powerLow x.kind c r.checksum)
      (updateShelf e (confirmed x r (probeLater s)) s) := by
    unfold shelfConfirms
    simp only [hc, if_neg hsum]
    rfl
  rw [goodReply, if_pos honline, hconfirms]
  rfl

end

section
variable {sh : Shelf} {x : Exchange} {r : Reply}

theorem expectedChecksum_lampSet {image : Image} (hkind : x.kind = .lampSet) (himage : x.image = some image) :
    expectedChecksum sh x = some (checksum image) := by
  simp [expectedChecksum, hkind, himage]

theorem expectedChecksum_probe (hkind : x.kind = .probe) :
    expectedChecksum sh x = sh.lastSent.map checksum := by
  simp only [expectedChecksum, hkind]

theorem sentAfter_lampSet {image : Image} (hkind : x.kind = .lampSet) (himage : x.image = some image)
    (hsum : r.checksum = checksum image) : sentAfter sh x r = if sh.invalidated then none else some image := by
  simp [sentAfter, expectedChecksum_lampSet hkind himage, hsum, hkind, himage]

theorem sentAfter_mismatch {c : Nat} (hc : expectedChecksum sh x = some c) (hsum : r.checksum ≠ c) :
    sentAfter sh x r = none := by
  simp [sentAfter, hc, hsum]

theorem sentAfter_probe (hkind : x.kind = .probe)
    (hsum : ∀ c, expectedChecksum sh x = some c → r.checksum = c) : sentAfter sh x r = sh.lastSent := by
  unfold sentAfter
  split
  · rfl
  · next c hc => simp only [hsum c hc, hkind, ne_eq, not_true_eq_false, if_false]

end

theorem checksumFrom_eq (k : Nat) (modes : List LampMode) :
    checksumFrom k modes = (modes.mapIdx fun i m => modeCode m * (k + i + 1)).sum := by
  induction modes generalizing k with
  | nil => rfl
  | cons m modes ih => simp [checksumFrom, ih, List.mapIdx_cons, Nat.add_assoc, Nat.add_comm 1]

/-- The applied-image checksum over the lamps in order (R147). -/
theorem checksum_eq (image : Image) :
    checksum image = ((List.finRange 48).map fun k => modeCode image[k] * (k.val + 1)).sum % 65536 := by
  rw [checksum, checksumFrom_eq]
  congr 2
  apply List.ext_getElem <;> simp

/-- Settles O52: `goodReply_brings` for a PROBING or LOST shelf, `goodReply_confirms` for an ONLINE one. -/
theorem goodReplyConfirmsTheShelf : Obligations.GoodReplyConfirmsTheShelf := by
  refine ⟨checksum_eq, fun k bits x r s hpart hx htimer horphan haddr hread hshelf hecho => ?_⟩
  intro e sh later idle
  have he : e < 192 := entryOf_lt k haddr
  rw [exec_replyReceived, replyTaken_answers hpart hx htimer hread hshelf hecho,
    if_neg (Bool.eq_false_iff.mp horphan)]
  refine ⟨fun hlink => ?_, fun image honline hkind himage hsum => ?_⟩
  · rw [goodReply_brings hlink]
    exact ⟨updateShelf e _ s, rfl, updateShelf_leaves he _ s⟩
  · have hexpected : expectedChecksum sh x = some (checksum image) := expectedChecksum_lampSet hkind himage
    have hgood : ∀ c, expectedChecksum sh x = some c → r.checksum = c := by
      rw [hexpected]; rintro c ⟨⟩; exact hsum
    obtain ⟨hentry, hframe, honly⟩ := updateShelf_leaves he (confirmed x r (probeLater s)) s
    rw [goodReply_confirms honline hgood]
    refine ⟨updateShelf e (confirmed x r (probeLater s)) s, rfl, ?_, hframe, honly⟩
    rw [hentry, confirmed, sentAfter_lampSet hkind himage hsum]
    rfl

/-! ### The words of a reply (R144, R200) -/

/-- Sixteen bits form the word that puts them out. -/
theorem wordBits_of_bits {bits : List Bool} (h : bits.length = 16) :
    wordBits (BitVec.ofNat 16 (bitsNat bits)) = bits := by
  apply List.ext_getElem?
  intro i
  by_cases hi : i < 16
  · rw [wordBits_getElem? _ hi, BitVec.getLsbD_ofNat, bitsNat_testBit]
    simp [hi, h]
  · rw [List.getElem?_eq_none (by rw [wordBits_length]; omega), List.getElem?_eq_none (by omega)]

/-- Whole words' bits are put out by the words they form. -/
theorem frameBits_wordsOfBits {n : Nat} {bits : List Bool} (h : bits.length = 16 * n) :
    frameBits (wordsOfBits n bits) = bits := by
  induction n generalizing bits with
  | zero => rw [List.length_eq_zero_iff.mp h]; rfl
  | succ n ih =>
    have hword : wordBits (BitVec.ofNat 16 (bitsNat (bits.take 16))) = bits.take 16 :=
      wordBits_of_bits (by rw [List.length_take]; omega)
    rw [wordsOfBits, frameBits_cons, hword, ih (by rw [List.length_drop]; omega), List.take_append_drop]

theorem frameBits_framed {bits : List Bool} (h : bits.length % 16 = 0) : frameBits (framed bits) = bits := by
  rw [framed, if_pos h]
  exact frameBits_wordsOfBits (by omega)

theorem framed_broken {bits : List Bool} (h : bits.length % 16 ≠ 0) : framed bits = [] := if_neg h

theorem wordSum_eight (w0 w1 w2 w3 w4 w5 w6 w7 : FrameWord) :
    wordSum [w0, w1, w2, w3, w4, w5, w6, w7] = w0 + w1 + w2 + w3 + w4 + w5 + w6 + w7 := by
  simp only [wordSum, BitVec.add_assoc, BitVec.ofNat_eq_ofNat, BitVec.add_zero]

/-- A reply that is no check error is eight words of the REPLY kind that sum to 0 (R144, R200). -/
theorem readReply_eq_some {ws : List FrameWord} {r : Reply} : readReply ws = some r ↔
    ∃ w0 w1 w2 w3 w4 w5 w6 w7 : FrameWord, ws = [w0, w1, w2, w3, w4, w5, w6, w7] ∧ w0.toNat / 256 = 4
      ∧ w0 + w1 + w2 + w3 + w4 + w5 + w6 + w7 = 0
      ∧ r = ⟨w0.toNat % 256, w1.toNat, w2.getLsbD 0, w5 ++ w4 ++ w3, w6.toNat⟩ := by
  constructor
  · intro h
    unfold readReply at h
    split at h
    · next w0 w1 w2 w3 w4 w5 w6 w7 =>
      split at h
      · next hgood =>
        obtain ⟨hkind, hsum⟩ := hgood
        exact ⟨w0, w1, w2, w3, w4, w5, w6, w7, rfl, hkind, (wordSum_eight ..).symm.trans hsum,
          (Option.some.inj h).symm⟩
      · cases h
    · cases h
  · rintro ⟨w0, w1, w2, w3, w4, w5, w6, w7, rfl, hkind, hsum, rfl⟩
    exact if_pos ⟨hkind, (wordSum_eight ..).trans hsum⟩

theorem discardReply_eq (k : Link) (x : Exchange) (s : State) : discardReply k x s = setActivity k (.exchange { x with
    timer := match x.timer with | .suspended left => .waiting (s.now + left) | t => t }) s := by
  unfold discardReply resumed
  cases x.timer <;> rfl

/-- Settles O53: the words by `frameBits_framed` and `readReply_eq_some`, each judgement by the `replyTaken` lemma of
its case, a mismatch and a confirmed PROBE by those of `goodReply`. -/
theorem otherRepliesAreJudged : Obligations.OtherRepliesAreJudged := by
  refine ⟨fun bits => ⟨frameBits_framed, framed_broken⟩, fun ws r => readReply_eq_some, fun k bits s hnone => ?_,
    fun k bits x s hpart hx htimer haddr => ?_⟩
  · rw [exec_replyReceived, replyTaken_notAwaited hnone]
  intro e sh later freed others
  have he : e < 192 := entryOf_lt k haddr
  have hleaves : ∀ f, others (updateShelf e f s) ∧ shelfAt (updateShelf e f s) e = f sh := fun f =>
    have ⟨hentry, hothers⟩ := updateShelf_leaves he f s
    ⟨hothers, hentry⟩
  rw [exec_replyReceived]
  refine ⟨fun hread horphan hhalt => ?_, fun hread horphan hhalt => ?_, fun r hread hother => ?_,
    fun horphan hreply => ?_, fun r hread hshelf hecho horphan honline => ?_⟩
  · rw [replyTaken_checkError hpart hx htimer hread, if_neg (Bool.eq_false_iff.mp horphan),
      checkErrorShelf_misses hhalt, missShelf_eq]
    exact ⟨updateShelf e (missed later) s, rfl, hleaves _⟩
  · obtain ⟨u, hu, hentry, hothers⟩ := checkErrorShelf_halts he hhalt
    rw [replyTaken_checkError hpart hx htimer hread, if_neg (Bool.eq_false_iff.mp horphan), hu]
    exact ⟨u, rfl, hothers, hentry⟩
  · rw [replyTaken_discarded hpart hx htimer hread hother, discardReply_eq]
    exact ⟨setActivity k _ s, rfl, setActivity_leaves k _ s⟩
  · have htaken : replyTaken k (framed bits) s = setActivity k .idle (orphanOutcome e s) := by
      rcases hreply with hread | ⟨r, hread, hshelf, hecho⟩
      · rw [replyTaken_checkError hpart hx htimer hread, if_pos horphan]
      · rw [replyTaken_answers hpart hx htimer hread hshelf hecho, if_pos horphan]
    rw [htaken]
    exact ⟨orphanOutcome e s, rfl, hleaves _⟩
  rw [replyTaken_answers hpart hx htimer hread hshelf hecho, if_neg (Bool.eq_false_iff.mp horphan)]
  refine ⟨fun image hcarried hsum => ?_, fun hkind hconfirms => ?_⟩
  · have hexpected : expectedChecksum sh x = some (checksum image) := by
      rcases hcarried with ⟨hkind, himage⟩ | ⟨hkind, himage⟩
      · exact expectedChecksum_lampSet hkind himage
      · rw [expectedChecksum_probe hkind, himage]; rfl
    obtain ⟨hothers, hentry⟩ := hleaves (confirmed x r later)
    rw [goodReply_mismatches honline hexpected hsum]
    refine ⟨updateShelf e (confirmed x r later) s, rfl, hothers, ?_⟩
    rw [hentry, confirmed, sentAfter_mismatch hexpected hsum]
  · have hgood : ∀ c, expectedChecksum sh x = some c → r.checksum = c := by
      rw [expectedChecksum_probe hkind]
      intro c hc
      obtain ⟨image, himage, rfl⟩ := Option.map_eq_some_iff.mp hc
      exact hconfirms image himage
    obtain ⟨hothers, hentry⟩ := hleaves (confirmed x r later)
    rw [goodReply_confirms honline hgood]
    refine ⟨updateShelf e (confirmed x r later) s, rfl, hothers, ?_⟩
    rw [hentry, confirmed, sentAfter_probe hkind hgood]

end Sys2Proof.Machine

namespace Sys2Proof.Machine

/-! ### What a load derives at its end (R50, R143, R188) -/

theorem plainFields_ownerAfter (s : State) (n : Nat) (old r : SlotRec) (b : MailboxRec) :
    plainFields (ownerAfter s n old r b) = plainFields b := by
  simp only [plainFields, ownerAfter, countIn, countOut]

theorem plainFields_derived (s : State) (b : MailboxRec) : plainFields (derived s b) = plainFields b := rfl

/-- What step 5 of a load leaves, before its shelf entries: every mailbox but for what its slots, capacity and class give
it, and of the lamps' half all but the images. -/
def OnlyDerivedChanges (s u : State) : Prop :=
  u = { s with boxes := u.boxes, lamps := u.lamps } ∧ (∀ m, plainFields (boxAt u m) = plainFields (boxAt s m))
    ∧ OnlyImagesChange s u

theorem OnlyDerivedChanges.refl (s : State) : OnlyDerivedChanges s s := ⟨rfl, fun _ => rfl, .refl s⟩

theorem OnlyDerivedChanges.trans {s u v : State} (h : OnlyDerivedChanges s u) (h' : OnlyDerivedChanges u v) :
    OnlyDerivedChanges s v := by
  obtain ⟨hframe, hboxes, himages⟩ := h
  obtain ⟨hframe', hboxes', himages'⟩ := h'
  refine ⟨?_, fun m => (hboxes' m).trans (hboxes m), himages.trans himages'⟩
  rw [hframe', hframe]

theorem OnlyDerivedChanges.forEach {f : Nat → State → State} (hf : ∀ n s, OnlyDerivedChanges s (f n s))
    (l : List Nat) (s : State) : OnlyDerivedChanges s (forEach f l s) := by
  induction l generalizing s with
  | nil => exact .refl s
  | cons n l ih => exact .trans (hf n s) (ih (f n s))

/-- A mailbox takes a record of the same plain fields. -/
theorem OnlyDerivedChanges.putBox {m : Nat} {b : MailboxRec} {s : State}
    (h : plainFields b = plainFields (boxAt s m)) : OnlyDerivedChanges s (putBox m b s) := by
  refine ⟨rfl, fun i => ?_, .of_lamps rfl⟩
  rw [boxAt_putBox]
  split
  · next hi => rw [hi, h]
  · rfl

theorem OnlyDerivedChanges.mapLamp (p : Nat) (mode : Option LampMode) (s : State) :
    OnlyDerivedChanges s (mapLamp p mode s) := ⟨rfl, fun _ => rfl, .mapLamp p mode s⟩

theorem OnlyDerivedChanges.buildSlot (n : Nat) (s : State) : OnlyDerivedChanges s (buildSlot n s) := by
  unfold Machine.buildSlot
  dsimp only
  split
  · exact .refl s
  · exact .putBox (plainFields_ownerAfter _ _ _ _ _)

theorem OnlyDerivedChanges.buildBox (m : Nat) (s : State) : OnlyDerivedChanges s (buildBox m s) := by
  have hbox : OnlyDerivedChanges s (Machine.putBox m (derived s (boxAt s m)) s) :=
    .putBox (plainFields_derived _ _)
  unfold Machine.buildBox
  dsimp only
  split
  · exact hbox.trans (.mapLamp _ _ _)
  · exact hbox

/-- The slots counted in and the mailboxes derived (R50). -/
def mailboxesBuilt (s : State) : State :=
  forEach buildBox ((forEach buildSlot (s.slots.map (·.1)) s).boxes.map (·.1)) (forEach buildSlot (s.slots.map (·.1)) s)

theorem mailboxesBuilt_derives (s : State) : OnlyDerivedChanges s (mailboxesBuilt s) :=
  .trans (.forEach .buildSlot _ s) (.forEach .buildBox _ _)

theorem buildDerived_eq (s : State) : buildDerived s = forEach buildShelf (List.range 192) (mailboxesBuilt s) := rfl

/-- The link record with which a loaded entry begins (R143, R188). -/
def begun (now : Nat) (sh : Shelf) : Shelf :=
  { sh with
    lastSent := none
    link := if sh.configured then .probing else .unconfigured
    probeAt := if sh.configured then some now else none }

theorem buildShelf_eq (e : Nat) (s : State) :
    buildShelf e s = updateShelf e (fun sh => recomposed (isDark s) (begun s.now sh)) s := rfl

theorem shelfAt_buildShelves (s : State) (i : Nat) :
    shelfAt (forEach buildShelf (List.range 192) s) i
      = if i < 192 then recomposed (isDark s) (begun s.now (shelfAt s i)) else shelfAt s i :=
  shelfAt_forEach_all (f := buildShelf) (g := fun s _ sh => recomposed (isDark s) (begun s.now sh)) (fun _ _ => rfl)
    (fun e i s => by rw [buildShelf_eq, shelfAt_updateShelf]) s i

/-- Composing the entries leaves all but the entries and the dirty sets. -/
theorem buildShelves_frame (l : List Nat) (s : State) :
    forEach buildShelf l s = { s with lamps := (forEach buildShelf l s).lamps }
      ∧ (forEach buildShelf l s).lamps.phase = s.lamps.phase ∧ (forEach buildShelf l s).lamps.cycles = s.lamps.cycles
      ∧ ∀ k, { linkState (forEach buildShelf l s).lamps k with dirty := [] }
        = { linkState s.lamps k with dirty := [] } := by
  induction l generalizing s with
  | nil => exact ⟨rfl, rfl, rfl, fun _ => rfl⟩
  | cons e l ih =>
    obtain ⟨hframe, hphase, hcycles, hlinks⟩ := ih (buildShelf e s)
    obtain ⟨-, -, hphase', hcycles', hlinks'⟩ :=
      updateShelf_only e (fun sh => recomposed (isDark s) (begun s.now sh)) s
    exact ⟨hframe, hphase.trans hphase', hcycles.trans hcycles', fun k => (hlinks k).trans (hlinks' k)⟩

theorem buildDerived_frame (s : State) :
    buildDerived s = { s with boxes := (buildDerived s).boxes, lamps := (buildDerived s).lamps } := by
  obtain ⟨hframe, -, -⟩ := mailboxesBuilt_derives s
  obtain ⟨hframe', -, -, -⟩ := buildShelves_frame (List.range 192) (mailboxesBuilt s)
  rw [buildDerived_eq, hframe', hframe]

/-- The frame with the changed parts named, so that they need not be evaluated. -/
theorem buildDerived_shape (s : State) :
    ∃ boxes lamps, buildDerived s = { s with boxes := boxes, lamps := lamps } := ⟨_, _, buildDerived_frame s⟩

theorem plainFields_buildDerived (s : State) (m : Nat) :
    plainFields (boxAt (buildDerived s) m) = plainFields (boxAt s m) := by
  obtain ⟨-, hboxes, -⟩ := mailboxesBuilt_derives s
  obtain ⟨hframe, -, -, -⟩ := buildShelves_frame (List.range 192) (mailboxesBuilt s)
  rw [buildDerived_eq, boxAt_congr (s := mailboxesBuilt s) (congrArg (·.boxes) hframe), hboxes]

theorem buildDerived_links (s : State) :
    (buildDerived s).lamps.phase = s.lamps.phase ∧ (buildDerived s).lamps.cycles = s.lamps.cycles
      ∧ ∀ k, { linkState (buildDerived s).lamps k with dirty := [] } = { linkState s.lamps k with dirty := [] } := by
  obtain ⟨-, -, -, hphase, hcycles, hlinks⟩ := mailboxesBuilt_derives s
  obtain ⟨-, hphase', hcycles', hlinks'⟩ := buildShelves_frame (List.range 192) (mailboxesBuilt s)
  exact ⟨hphase'.trans hphase, hcycles'.trans hcycles, fun k => (hlinks' k).trans (hlinks k)⟩

/-- A loaded entry begins its link record, PROBING if it is configured; its images are derived. -/
theorem shelfAt_buildDerived (s : State) {e : Nat} (he : e < 192) :
    ∃ mapped composed, shelfAt (buildDerived s) e = { begun s.now (shelfAt s e) with
      mapped := mapped, composed := composed } := by
  obtain ⟨hframe, -, himages, -⟩ := mailboxesBuilt_derives s
  obtain ⟨mapped, composed, himage⟩ := himages e
  have hnow : (mailboxesBuilt s).now = s.now := congrArg (·.now) hframe
  rw [buildDerived_eq, shelfAt_buildShelves, if_pos he, himage, hnow]
  exact ⟨mapped, _, rfl⟩

/-! ### A load that ends RUNNING (R188, R197) -/

/-- The part as it becomes RUNNING, before the reports of a load's end (R188, step 6). -/
def enteredRunning (consumer : Nat) (s : State) : State :=
  { s with
    part := .running
    transit := { s.transit with turn := .upstream }
    reports := ⟨consumer, consumer, [], s.reports.writing, false, s.reports.latch, some (regionBase s .report)⟩
    restartTag := none
    loader := none }

/-- The reports of a load's end, read off the state that was loaded (R188, R191, R197). -/
def loadReported (s u : State) : State :=
  let done := match s.restartTag with
    | some tag => makeReport (.commandDone 1 .accepted 0) none none none (some tag) u
    | none => u
  let loaded := makeReport (.loadDone s.counts.tables s.counts.boxes s.counts.slots) none none none none done
  if s.prun then loaded else makeReport (.procStopped s.control.header.dark) none none none none loaded

theorem enterRunning_eq {l : Loader} {s : State} (h : s.loader = some l) :
    enterRunning s = loadReported s (enteredRunning l.consumer s) := by
  unfold enterRunning
  rw [h]
  rfl

theorem loadReported_buildDerived (s u : State) : loadReported (buildDerived s) u = loadReported s u := by
  obtain ⟨boxes, lamps, hderived⟩ := buildDerived_shape s
  rw [hderived]
  rfl

theorem enteredRunning_buildDerived (consumer : Nat) (s : State) :
    enteredRunning consumer (buildDerived s) = { enteredRunning consumer s with
      boxes := (buildDerived s).boxes, lamps := (buildDerived s).lamps } := by
  obtain ⟨boxes, lamps, hderived⟩ := buildDerived_shape s
  rw [hderived]
  rfl

theorem loadComplete_iff (s : State) : loadComplete s = true ↔ s.part = .loading ∧ s.reports.writing = none
    ∧ (∀ e ∈ s.transit.queue, e.origin ≠ .loadWrite ∧ ∀ i, e.origin ≠ .loadRead i)
    ∧ ∃ l, s.loader = some l ∧ l.judged = 20559 ∧ l.writes = [] := by
  have hentry : ∀ e : Entry, isLoaderEntry e = false ↔ e.origin ≠ .loadWrite ∧ ∀ i, e.origin ≠ .loadRead i := by
    intro e
    unfold isLoaderEntry
    cases e.origin <;> simp
  unfold loadComplete
  cases hl : s.loader with
  | none => simp
  | some l =>
    simp only [Bool.and_eq_true, beq_iff_eq, List.isEmpty_iff, Bool.not_eq_true', List.any_eq_false, hentry,
      Option.isNone_iff_eq_none, Bool.not_eq_true, loadReads, Option.some.injEq, exists_eq_left']
    constructor
    · rintro ⟨⟨⟨⟨hpart, hjudged⟩, hwrites⟩, hqueue⟩, hwriting⟩
      exact ⟨hpart, hwriting, hqueue, hjudged, hwrites⟩
    · rintro ⟨hpart, hwriting, hqueue, hjudged, hwrites⟩
      exact ⟨⟨⟨⟨hpart, hjudged⟩, hwrites⟩, hqueue⟩, hwriting⟩

theorem exec_loadDone (s : State) : exec .loadDone s = .next (settle (finishLoad s)) := rfl

theorem finishLoad_incomplete {s : State} (h : loadComplete s = false) : finishLoad s = s :=
  if_neg (Bool.eq_false_iff.mp h)

theorem finishLoad_complete {l : Loader} {s : State} (h : loadComplete s = true) (hl : s.loader = some l) :
    finishLoad s = loadReported s (enteredRunning l.consumer (buildDerived s)) := by
  have hloader : (buildDerived s).loader = some l := by rw [buildDerived_frame]; exact hl
  rw [finishLoad, if_pos h, enterRunning_eq hloader, loadReported_buildDerived]

/-! ### A load that fails (R179, R190) -/

theorem orphanLoader_transaction (e : Entry) :
    ((orphanLoader e).kind, (orphanLoader e).addr, (orphanLoader e).words, (orphanLoader e).lanes)
      = (e.kind, e.addr, e.words, e.lanes) := by
  unfold orphanLoader
  cases e.origin <;> rfl

theorem orphanLoader_origin (e : Entry) :
    (orphanLoader e).origin ≠ .loadWrite ∧ ∀ i, (orphanLoader e).origin ≠ .loadRead i := by
  unfold orphanLoader
  cases h : e.origin <;> simp [h]

/-- The entries that drain once a load has failed are its reads and writes, and those that drained before. -/
theorem orphanLoader_drained (e : Entry) : (orphanLoader e).origin = .drained ↔
    e.origin = .drained ∨ e.origin = .loadWrite ∨ ∃ i, e.origin = .loadRead i := by
  unfold orphanLoader
  cases h : e.origin <;> simp [h]

theorem failLoad_queue (cause : LoadFailure) (s : State) :
    (failLoad cause s).transit.queue = s.transit.queue.map orphanLoader := rfl

/-- What drains in the queue of a failed load (R179, R190). -/
theorem failLoad_drained (cause : LoadFailure) (s : State) :
    (∃ x ∈ (failLoad cause s).transit.queue, x.origin = .drained) ↔
      ∃ x ∈ s.transit.queue, x.origin = .drained ∨ x.origin = .loadWrite ∨ ∃ i, x.origin = .loadRead i := by
  rw [failLoad_queue]
  constructor
  · rintro ⟨x, hx, hdrained⟩
    obtain ⟨old, hold, rfl⟩ := List.mem_map.mp hx
    exact ⟨old, hold, (orphanLoader_drained old).mp hdrained⟩
  · rintro ⟨old, hold, hdrains⟩
    exact ⟨orphanLoader old, List.mem_map.mpr ⟨old, hold, rfl⟩, (orphanLoader_drained old).mpr hdrains⟩

/-- An empty latch takes LOAD_FAILED, and the reports stay else as they are (R190, R195). -/
theorem failLoad_reports (cause : LoadFailure) (s : State) :
    (failLoad cause s).reports = { s.reports with latch := (match s.reports.latch with
      | some x => some x
      | none => some ⟨.loadFailed cause, none, none, none⟩) } := by
  have herror : isError (.loadFailed cause) = true := rfl
  show fillLatch (reportNow (.loadFailed cause) none none none none (clearShadows s)) s.reports = _
  unfold fillLatch
  rw [show (reportNow (.loadFailed cause) none none none none (clearShadows s)).body = .loadFailed cause from rfl, herror]
  cases hlatch : s.reports.latch with
  | some x =>
    rw [if_neg (by simp)]
    simp only [← hlatch]
  | none => rfl

theorem failLoad_empty (cause : LoadFailure) (s : State) : ShadowsEmpty (failLoad cause s) := clearShadows_empty s

/-- A MEMFAULT of the loader's own read or write fails the load (R179). -/
theorem deliver_loaderFault {e : Entry} {m : MemAnswer} {s : State} (hpart : s.part = .loading) (hfault : m.fault = true)
    (horigin : e.origin = .loadWrite ∨ ∃ i, e.origin = .loadRead i) :
    deliver e m s = failLoad (.memFault e.addr) s := by
  rcases horigin with h | ⟨i, h⟩ <;> simp [deliver, h, hpart, hfault]

theorem exec_memoryAnswer {e : Entry} {rest : List Entry} {s : State} (m : MemAnswer)
    (h : s.transit.queue = e :: rest) : exec (.memoryAnswer m) s
      = .next (settle (settleFailure (deliver e m { s with transit := { s.transit with queue := rest } }))) := by
  show Host.Outcome.next (settle (answerTaken m s)) = _
  simp only [answerTaken, h]

/-! ### A failed load that settles in FAILED (R179, R190) -/

/-- The part as it settles in FAILED, before LOAD_FAILED is made (R190, step 4). -/
def failedPart (s : State) : State :=
  { clearShadows s with
    part := .failed
    transit := { s.transit with regions := [], turn := .upstream }
    reports := dropHeld s.reports
    failing := none }

theorem any_isDraining_iff (q : List Entry) : q.any isDraining = true ↔ ∃ x ∈ q, x.origin = .drained := by
  simp [isDraining]

theorem settleFailure_drains {s : State} (h : ∃ x ∈ s.transit.queue, x.origin = .drained) : settleFailure s = s := by
  unfold settleFailure
  split
  · exact if_pos ((any_isDraining_iff _).mpr h)
  · rfl

section
variable {cause : LoadFailure} {s : State} (h : s.failing = some cause)
  (hdrained : ∀ x ∈ s.transit.queue, x.origin ≠ .drained)
include h hdrained

theorem settleFailure_enters : settleFailure s = enterFailed cause s := by
  have hnone : ¬ s.transit.queue.any isDraining = true := fun hany =>
    have ⟨x, hx, horigin⟩ := (any_isDraining_iff _).mp hany
    hdrained x hx horigin
  simp only [settleFailure, h, if_neg hnone]

theorem settleFailure_unwritten (hbase : s.reports.base = none) :
    settleFailure s = { failedPart s with reports := { s.reports with held := [], dropped := true } } := by
  rw [settleFailure_enters h hdrained, enterFailed, hbase]
  rfl

theorem settleFailure_reports (hbase : s.reports.base ≠ none) :
    settleFailure s = makeReport (.loadFailed cause) none none none none (failedPart s) := by
  rw [settleFailure_enters h hdrained, enterFailed, if_pos (Option.isSome_iff_ne_none.mpr hbase)]
  rfl

end

/-- Settles O57: what a complete load derives by `buildDerived_frame` and the lemmas beside it, its reports by
`finishLoad_complete`; a failed load by the lemmas on `failLoad` and `settleFailure`. -/
theorem loadEndsRunningOrFailed : Obligations.LoadEndsRunningOrFailed := by
  refine ⟨fun s => ⟨fun hincomplete => ?_, fun hcomplete l hl => ?_⟩, loadComplete_iff,
    fun e rest m s hpart hfault hqueue horigin => ?_, fun cause s hpart => ?_, fun cause s => ⟨settleFailure_none,
      fun _ hdrains => settleFailure_drains hdrains, fun hfailing hdrained => ?_⟩⟩
  · rw [exec_loadDone, finishLoad_incomplete hincomplete]
  · have hfinish := finishLoad_complete hcomplete hl
    have hframe := enteredRunning_buildDerived l.consumer s
    have hboxes := plainFields_buildDerived s
    obtain ⟨hphase, hcycles, hlinks⟩ := buildDerived_links s
    have hshelves := fun e he => shelfAt_buildDerived s (e := e) he
    rw [exec_loadDone, hfinish]
    generalize buildDerived s = d at hframe hboxes hphase hcycles hlinks hshelves
    exact ⟨enteredRunning l.consumer d, rfl, hframe, hboxes, hphase, hcycles, hlinks, hshelves⟩
  · have hfails := deliver_loaderFault (s := { s with transit := { s.transit with queue := rest } }) hpart hfault horigin
    rw [exec_memoryAnswer m hqueue, hfails]
  · rintro u rfl
    refine ⟨hpart, rfl, rfl, rfl, failLoad_empty cause s, rfl, ?_, ?_, ?_, rfl, rfl, rfl, rfl, rfl, rfl, rfl, rfl,
      failLoad_reports cause s⟩
    · rw [failLoad_queue, List.map_map]
      exact List.map_congr_left fun e _ => orphanLoader_transaction e
    · rw [failLoad_queue, List.forall_mem_map]
      exact fun e _ => orphanLoader_origin e
    · exact failLoad_drained cause s
  · exact ⟨failedPart s, settleFailure_unwritten hfailing hdrained, settleFailure_reports hfailing hdrained, rfl, rfl,
      rfl, rfl, clearShadows_empty s, rfl, rfl, rfl, rfl, rfl, rfl, rfl, rfl, rfl, rfl⟩

end Sys2Proof.Machine

namespace Sys2Proof.Machine

/-! ### What the links' choice leaves (R136, R137, R145, R146, R151) -/

/-- An address that a rising list holds already joins it for nothing. -/
theorem insertRising_of_mem {a : Nat} {set : List Nat} (hrise : set.Pairwise (· < ·)) (ha : a ∈ set) :
    insertRising a set = set := by
  induction set with
  | nil => cases ha
  | cons b set ih =>
    obtain ⟨hb, hrise⟩ := List.pairwise_cons.mp hrise
    rcases List.mem_cons.mp ha with rfl | ha
    · simp [insertRising]
    · have hba : b < a := hb a ha
      rw [insertRising, if_neg (by omega), if_neg (by omega), ih hrise ha]

/-- An exact dirty set stays as it is when the membership of an address is judged afresh. -/
theorem judgeMember_exact {a : Nat} {dirty : Bool} {set : List Nat} (hrise : set.Pairwise (· < ·))
    (hexact : a ∈ set ↔ dirty = true) : judgeMember a dirty set = set := by
  unfold judgeMember
  split
  · next hdirty => exact insertRising_of_mem hrise (hexact.mpr hdirty)
  · next hclean =>
    have hfresh : a ∉ set := fun ha => hclean (hexact.mp ha)
    exact List.filter_eq_self.mpr fun b hb => bne_iff_ne.mpr fun hba => hfresh (hba ▸ hb)

theorem isDirty_iff {sh : Shelf} : isDirty sh = true ↔ sh.configured = true ∧ sh.lastSent ≠ some sh.composed := by
  simp [isDirty]

/-- An entry without what building a frame changes of it: the sequence and the probe moment (R145, R152). -/
def unsent (sh : Shelf) : Shelf := { sh with sequence := 0, probeAt := none }

theorem isDirty_congr {sh sh' : Shelf} (h : unsent sh' = unsent sh) : isDirty sh' = isDirty sh := by
  have hconfigured : sh'.configured = sh.configured := congrArg (·.configured) h
  have hsent : sh'.lastSent = sh.lastSent := congrArg (·.lastSent) h
  have hcomposed : sh'.composed = sh.composed := congrArg (·.composed) h
  rw [isDirty, isDirty, hconfigured, hsent, hcomposed]

/-- The dirty sets hold exactly the dirty entries, said with the model's own test. -/
theorem dirtySetExact_iff (k : Link) (s : State) : DirtySetExact k s ↔
    (linkState s.lamps k).dirty.Pairwise (· < ·) ∧ (∀ a ∈ (linkState s.lamps k).dirty, a < 96)
      ∧ (s.part ≠ .loading → ∀ a, a < 96 →
        (a ∈ (linkState s.lamps k).dirty ↔ isDirty (shelfAt s (entryOf k a)) = true)) := by
  simp only [isDirty_iff]
  rfl

theorem DirtySetsExact.link {s : State} (h : DirtySetsExact s) (k : Link) : DirtySetExact k s := by
  obtain ⟨hlinkA, hlinkB⟩ := h
  cases k
  · exact hlinkA
  · exact hlinkB

/-- Of the part a link's choice changes the lamps' half alone, and of it the sequence and the probe moment of entries, and
the links; exact dirty sets stay as they are. -/
def OnlyFramesChange (s u : State) : Prop :=
  u = { s with lamps := u.lamps } ∧ u.lamps.phase = s.lamps.phase ∧ u.lamps.cycles = s.lamps.cycles
    ∧ (∀ e, unsent (shelfAt u e) = unsent (shelfAt s e))
    ∧ (DirtySetsExact s → ∀ k, (linkState u.lamps k).dirty = (linkState s.lamps k).dirty)

theorem OnlyFramesChange.refl (s : State) : OnlyFramesChange s s := ⟨rfl, rfl, rfl, fun _ => rfl, fun _ _ => rfl⟩

theorem OnlyFramesChange.dirtySetsExact {s u : State} (h : OnlyFramesChange s u) (hs : DirtySetsExact s) :
    DirtySetsExact u := by
  obtain ⟨hframe, -, -, hshelves, hdirty⟩ := h
  have hpart : u.part = s.part := congrArg (·.part) hframe
  have hlink : ∀ k, DirtySetExact k s → DirtySetExact k u := by
    intro k hk
    rw [dirtySetExact_iff, hdirty hs k, hpart]
    simp only [isDirty_congr (hshelves _)]
    exact (dirtySetExact_iff k s).mp hk
  exact ⟨hlink .a (hs.link .a), hlink .b (hs.link .b)⟩

theorem OnlyFramesChange.trans {s u v : State} (h : OnlyFramesChange s u) (h' : OnlyFramesChange u v) :
    OnlyFramesChange s v := by
  have hexact := h.dirtySetsExact
  obtain ⟨hframe, hphase, hcycles, hshelves, hdirty⟩ := h
  obtain ⟨hframe', hphase', hcycles', hshelves', hdirty'⟩ := h'
  refine ⟨?_, hphase'.trans hphase, hcycles'.trans hcycles, fun e => (hshelves' e).trans (hshelves e),
    fun hs k => (hdirty' (hexact hs) k).trans (hdirty hs k)⟩
  rw [hframe', hframe]

theorem OnlyFramesChange.updateLink (k : Link) {f : LinkState → LinkState} (hf : ∀ x, (f x).dirty = x.dirty)
    (s : State) : OnlyFramesChange s (updateLink k f s) := by
  obtain ⟨hphase, hcycles⟩ := putLinkState_cadence k (f (linkState s.lamps k)) s.lamps
  refine ⟨rfl, hphase, hcycles, fun e => congrArg unsent (shelfAt_updateLink k f s e), fun _ i => ?_⟩
  rw [linkState_updateLink]
  split
  · next hi => rw [hf, hi]
  · rfl

/-- Of an entry, outside a load, only what the dirty set does not read is changed. -/
theorem OnlyFramesChange.updateShelf (k : Link) {a : Nat} (ha : a < 96) {f : Shelf → Shelf} {s : State}
    (hpart : s.part = .running) (hf : unsent (f (shelfAt s (entryOf k a))) = unsent (shelfAt s (entryOf k a))) :
    OnlyFramesChange s (updateShelf (entryOf k a) f s) := by
  obtain ⟨hphase, hcycles⟩ := putShelf_cadence (entryOf k a) (f (shelfAt s (entryOf k a))) s.lamps
  refine ⟨rfl, hphase, hcycles, fun e => ?_, fun hs i => ?_⟩
  · rw [shelfAt_updateShelf]
    split
    · next he => rw [hf, he.1]
    · rfl
  · by_cases hi : i = k
    · subst hi
      obtain ⟨hrise, -, hmember⟩ := (dirtySetExact_iff i s).mp (hs.link i)
      have hjudged := judgeMember_exact hrise
        ((hmember (by rw [hpart]; decide) a ha).trans (by rw [← isDirty_congr hf]))
      have haddr : entryOf i a % 96 = a := by cases i <;> simp only [entryOf] <;> omega
      rw [updateShelf_lamps, putShelf, if_pos (entryOf_lt i ha), linkOf_entryOf i ha, haddr, hjudged,
        linkState_putLinkState, if_pos rfl]
    · rw [updateShelf_lamps, linkState_putShelf_other (by rwa [linkOf_entryOf k ha])]

/-- A frame built to a shelf (R145, R146). -/
theorem OnlyFramesChange.send (k : Link) {a : Nat} (ha : a < 96) {f : LinkState → LinkState} {g : Shelf → Shelf}
    {s : State} (hpart : s.part = .running)
    (hg : unsent (g (shelfAt s (entryOf k a))) = unsent (shelfAt s (entryOf k a)))
    (hf : ∀ x, (f x).dirty = x.dirty) :
    OnlyFramesChange s (Machine.updateLink k f (Machine.updateShelf (entryOf k a) g s)) :=
  .trans (.updateShelf k ha hpart hg) (.updateLink k hf _)

theorem OnlyFramesChange.sendCadence (k : Link) (s : State) : OnlyFramesChange s (sendCadence k s) := by
  refine .updateLink k ?_ s
  exact fun _ => rfl

theorem OnlyFramesChange.sendLampSet (k : Link) {a : Nat} (ha : a < 96) {s : State} (hpart : s.part = .running) :
    OnlyFramesChange s (sendLampSet k a s) := by
  unfold Machine.sendLampSet
  refine .send k ha hpart ?_ ?_
  · rfl
  · exact fun _ => rfl

theorem OnlyFramesChange.sendProbe (k : Link) {a : Nat} (ha : a < 96) {s : State} (hpart : s.part = .running) :
    OnlyFramesChange s (sendProbe k a s) := by
  unfold Machine.sendProbe setActivity
  refine .send k ha hpart ?_ ?_
  · rfl
  · exact fun _ => rfl

theorem OnlyFramesChange.chooseLink (k : Link) (s : State) : OnlyFramesChange s (chooseLink k s) := by
  by_cases hfree : s.part = .running ∧ (linkState s.lamps k).activity = .idle
  · obtain ⟨hpart, hidle⟩ := hfree
    rw [chooseLink_free hpart hidle, chooseFrame]
    split
    · exact .sendCadence k s
    · split
      · next a hnext => exact .sendLampSet k (nextDirty_lt hnext) hpart
      · split
        · next a hprobe => exact .sendProbe k (dueProbe_eq_some.mp hprobe).1 hpart
        · exact .refl s
  · rw [chooseLink_waits (Decidable.not_and_iff_or_not.mp hfree)]
    exact .refl s

theorem OnlyFramesChange.chooseLinks (s : State) : OnlyFramesChange s (chooseLinks s) :=
  .trans (.chooseLink .a s) (.chooseLink .b _)

/-! ### Responses returned (R176) -/

theorem returnResponses_eq (order : List (Option Response)) (done : List Response) :
    returnResponses order done
      = (order.dropWhile Option.isSome, done ++ (order.takeWhile Option.isSome).filterMap id) := by
  induction order generalizing done with
  | nil => simp [returnResponses]
  | cons x order ih =>
    cases x with
    | none => simp [returnResponses]
    | some r => rw [returnResponses, ih]; simp

theorem returned_eq (s : State) : returned s = { s with transit := { s.transit with
    order := s.transit.order.dropWhile Option.isSome
    returned := s.transit.returned ++ (s.transit.order.takeWhile Option.isSome).filterMap id } } := by
  simp only [returned, returnResponses_eq]

/-- No response is lost and none moves ahead of another. -/
theorem returnResponses_keeps (order : List (Option Response)) (done : List Response) :
    (returnResponses order done).2.map some ++ (returnResponses order done).1 = done.map some ++ order := by
  induction order generalizing done with
  | nil => simp [returnResponses]
  | cons x order ih =>
    cases x with
    | none => simp [returnResponses]
    | some r => rw [returnResponses, ih]; simp

/-- The response at the front of the order, if any, is not fixed. -/
theorem returnResponses_front (order : List (Option Response)) (done : List Response) (r : Response) :
    (returnResponses order done).1.head? ≠ some (some r) := by
  induction order generalizing done with
  | nil => simp [returnResponses]
  | cons x order ih =>
    cases x with
    | none => simp [returnResponses]
    | some q => exact ih _

/-! ### What coming to rest leaves (log 2) -/

/-- What the part at rest has returned, and what it has left of the lamps' half. -/
def RestLeaves (s u : State) : Prop :=
  u.transit.returned.map some ++ u.transit.order = s.transit.returned.map some ++ s.transit.order
    ∧ (∀ r, u.transit.order.head? ≠ some (some r))
    ∧ u.lamps.phase = s.lamps.phase ∧ u.lamps.cycles = s.lamps.cycles
    ∧ (∀ e, unsent (shelfAt u e) = unsent (shelfAt s e))
    ∧ (DirtySetsExact s → ∀ k, (linkState u.lamps k).dirty = (linkState s.lamps k).dirty)

theorem RestLeaves.calm (s : State) : RestLeaves s (calm s) := by
  obtain ⟨-, hphase, hcycles, hshelves, hdirty⟩ := OnlyFramesChange.chooseLinks s
  have hlamps : (Machine.calm s).lamps = (chooseLinks s).lamps := by
    simp only [Machine.calm, passTurn_keeps, returned_lamps]
  have horder : (Machine.calm s).transit.order = (returnResponses s.transit.order s.transit.returned).1 := by
    simp only [Machine.calm, passTurn_keeps, returned_transit_order, chooseLinks_keeps]
  have hreturned : (Machine.calm s).transit.returned = (returnResponses s.transit.order s.transit.returned).2 := by
    simp only [Machine.calm, passTurn_keeps, returned_transit_returned, chooseLinks_keeps]
  unfold RestLeaves shelfAt
  rw [horder, hreturned, hlamps]
  exact ⟨returnResponses_keeps _ _, returnResponses_front _ _, hphase, hcycles, hshelves, hdirty⟩

theorem accepted_eq (t : HostTxn) (s : State) : accepted t s =
    let v := { calm (arrived t s) with transit := { (calm (arrived t s)).transit with arrivals := [] } }
    if (roomAsked s t).isSome then setTurn .deposit v else v := rfl

/-- A transaction is taken in a state at rest, but for the turn and its own arrival. -/
theorem RestLeaves.accepted (t : HostTxn) (s : State) : RestLeaves s (accepted t s) := by
  have hrest : RestLeaves s (Machine.calm (arrived t s)) := .calm (arrived t s)
  rw [accepted_eq]
  generalize Machine.calm (arrived t s) = v at hrest ⊢
  dsimp only
  split
  · exact hrest
  · exact hrest

/-! ### The arrivals as the part comes to rest (R176, R180, log 2) -/

/-- The head of arrivals can be accepted: the part is not LOADING, a response can be outstanding, and its room is granted
or none is asked. -/
theorem acceptable_iff {h : HostTxn} {rest : List HostTxn} {v : State} (harrivals : v.transit.arrivals = h :: rest) :
    acceptable v = true ↔
      v.part ≠ .loading ∧ v.transit.order.length < 64 ∧ (roomAsked v h = none ∨ isGranted .upstream v = true) := by
  have hopen : portOpen v = true ↔ v.part ≠ .loading ∧ v.transit.order.length < 64 := by
    rw [portOpen, Bool.and_eq_true, bne_iff_ne, decide_eq_true_eq]
    rfl
  simp only [acceptable, harrivals, Bool.and_eq_true, hopen, Bool.or_eq_true, Option.isNone_iff_eq_none, and_assoc]

theorem acceptable_eq_false {h : HostTxn} {rest : List HostTxn} {v : State} (harrivals : v.transit.arrivals = h :: rest)
    (hwaits : v.part = .loading ∨ 64 ≤ v.transit.order.length
      ∨ ∃ n, roomAsked v h = some n ∧ isGranted .upstream v = false) : acceptable v = false := by
  rw [← Bool.not_eq_true, acceptable_iff harrivals]
  rintro ⟨hpart, hplaces, hroom⟩
  rcases hwaits with hloading | hfull | ⟨n, hasked, hungranted⟩
  · exact hpart hloading
  · omega
  · rw [hasked, hungranted] at hroom
    rcases hroom with hnone | hgranted
    · cases hnone
    · cases hgranted

theorem acceptHead_eq {h : HostTxn} {rest : List HostTxn} {v : State} (harrivals : v.transit.arrivals = h :: rest) :
    acceptHead v = takeTxn h { v with transit := { v.transit with
      arrivals := rest, turn := if roomAsked v h = none then v.transit.turn else .deposit } } := by
  unfold acceptHead
  rw [harrivals]
  cases hroom : roomAsked v h <;> simp [hroom, nextRequester, setTurn]

/-- With no arrival that can be accepted the part is at rest. -/
theorem settle_waits {s : State} (h : acceptable (calm s) = false) : settle s = calm s := by
  unfold settle
  cases (calm s).transit.arrivals.length with
  | zero => rfl
  | succ n => rw [serve, h]; rfl

/-- Arrivals are taken one by one, the part coming to rest after each. -/
theorem settle_takes {h : HostTxn} {rest : List HostTxn} {s : State} (harrivals : (calm s).transit.arrivals = h :: rest)
    (hacceptable : acceptable (calm s) = true) : settle s = settle (acceptHead (calm s)) := by
  have hrest : (calm (acceptHead (calm s))).transit.arrivals = rest := by
    simp only [calm_keeps, acceptHead_eq harrivals, takeTxn_arrivals]
  unfold settle
  rw [harrivals, List.length_cons, serve, if_pos hacceptable, hrest]

theorem acceptable_nil {v : State} (h : v.transit.arrivals = []) : acceptable v = false := by
  simp [acceptable, h]

theorem acceptable_loading {v : State} (h : v.part = .loading) : acceptable v = false := by
  simp [acceptable, portOpen, h]

/-- Whatever row a transaction arrives under, it arrives at the port (log 1). -/
theorem exec_hostRow {c : Instr} {t : HostTxn} {s : State} (hc : c ∈ hostRows s.straps t) :
    exec c s = .next (hostArrives t s) := by
  have hrows : ∀ c ∈ hostRows s.straps t, exec c s = .next (hostArrives t s) := by
    cases t with
    | read r =>
      simp only [hostRows, List.forall_mem_cons, List.not_mem_nil, false_imp_iff, implies_true, and_true]
      exact ⟨rfl, rfl, rfl, rfl, rfl, rfl, rfl⟩
    | write w =>
      simp only [hostRows, List.forall_mem_cons, List.not_mem_nil, false_imp_iff, implies_true, and_true]
      (repeat' apply And.intro) <;> rfl
  exact hrows c hc

/-- Settles O3: what coming to rest leaves is `RestLeaves`, what it takes `settle_takes` and `settle_waits`, and a row of a
host transaction is its arrival, `exec_hostRow`. -/
theorem restChangesOnlyLinksAndResponses : Obligations.RestChangesOnlyLinksAndResponses := by
  refine ⟨fun t s => ⟨?_, ?_, ?_⟩, fun s => ⟨rfl, returned_eq s, fun hnone => settle_waits ?_⟩,
    fun h rest s v hv harrivals => ⟨fun htakes => ?_, fun hwaits => ?_⟩, fun t s hready c hc => ?_,
    fun t h rest s v harrivals hv hwaits c hc => ?_⟩
  · rintro u (rfl | rfl)
    · simp only [calm_keeps, true_and]
      exact RestLeaves.calm s
    · simp only [accepted_keeps, true_and]
      exact RestLeaves.accepted t s
  · simp only [calm_keeps]
  · simp only [accepted_keeps]
  · rcases hnone with hloading | hnone
    · exact acceptable_loading (by simpa only [calm_keeps] using hloading)
    · exact acceptable_nil (by simpa only [calm_keeps] using hnone)
  · subst hv
    rw [settle_takes harrivals ((acceptable_iff harrivals).mpr htakes), acceptHead_eq harrivals]
  · subst hv
    exact settle_waits (acceptable_eq_false harrivals hwaits)
  · rw [exec_hostRow hc, hostArrives_ready hready]
  · have hv' : v.transit.arrivals = h :: rest := by rw [hv]; simp only [calm_keeps]
    rw [exec_hostRow hc, hostArrives, harrivals, settle_waits, hv]
    rw [← hv]
    exact acceptable_eq_false hv' hwaits

end Sys2Proof.Machine

namespace Sys2Proof.Machine

/-! ### Transactions that reach no unit (R165, R170, R180, R181, R185) -/

theorem takeTxn_misformed {t : HostTxn} {fault : FormFault} (h : txnFault t = some fault) (s : State) :
    takeTxn t s = takeMisformed t fault s := by
  unfold takeTxn
  split
  · next found hfound => rw [Option.some.inj (hfound.symm.trans h)]
  · next hnone => cases hnone.symm.trans h

/-- A well-formed transaction under RESET is PLAIN wherever it falls (R180). -/
theorem takeTxn_reset {t : HostTxn} {s : State} (hpart : s.part = .reset) (hform : txnFault t = none) :
    takeTxn t s = forwardPlain t s := by
  simp only [takeTxn, hform, hpart]

/-- In FAILED the Control Area alone is no PLAIN place (R180, R181). -/
theorem takeTxn_failed {t : HostTxn} {s : State} (hpart : s.part = .failed) (hform : txnFault t = none) :
    takeTxn t s = takeFailed t s := by
  simp only [takeTxn, hform, hpart]

theorem takeFailed_outside {t : HostTxn} {s : State} (harea : areaOffset s (txnAddr t) = none) :
    takeFailed t s = forwardPlain t s := by
  simp only [takeFailed, harea]

theorem takeFailed_write {w : HostWrite} {offset : Nat} {s : State}
    (harea : areaOffset s (txnAddr (.write w)) = some offset) :
    takeFailed (.write w) s = writeAreaFailed offset w s := by
  simp only [takeFailed, harea, takeAreaFailed]

theorem writesRestart_eq_false {line : List Lane} {records : List AreaRecord}
    (h : ∀ c, writtenCommand line records = some c → c.code ≠ 1) : writesRestart line records = false := by
  unfold writesRestart
  split
  · next c hc => exact beq_false_of_ne (h c hc)
  · rfl

/-- A Control Area write in FAILED that carries no RESTART is PLAIN (R181, R185). -/
theorem writeAreaFailed_plain {offset : Nat} {w : HostWrite}
    (h : ∀ c, writtenCommand (lineLanes w) (touchedRecords offset w.words.toNat) = some c → c.code ≠ 1) (s : State) :
    writeAreaFailed offset w s = forwardPlain (.write w) s := by
  rw [writeAreaFailed, writesRestart_eq_false h]
  rfl

section
variable (t : HostTxn) (s : State)

theorem areaOffset_accepted (addr : Nat) : areaOffset (accepted t s) addr = areaOffset s addr :=
  areaOffset_congr (by simp) addr

theorem regionOf_accepted (addr : Nat) : regionOf (accepted t s) addr = regionOf s addr :=
  regionOf_congr (by simp) addr

theorem part_accepted : (accepted t s).part = s.part := by simp

end

/-- A transaction that the port can take at once is taken under whatever row it arrives (log 1). -/
theorem exec_ready {c : Instr} {t : HostTxn} {s : State} (hrow : c ∈ hostRows s.straps t) (hready : PortReady t s) :
    exec c s = .next (calm (takeTxn t (accepted t s))) := by
  rw [exec_hostRow hrow, hostArrives_ready hready]

theorem plainTransaction_mem_hostRows (straps : BitVec 4) (t : HostTxn) : .plainTransaction t ∈ hostRows straps t := by
  cases t <;> simp [hostRows]

theorem linkMisformed_mem_hostRows (straps : BitVec 4) (t : HostTxn) : .linkMisformed t ∈ hostRows straps t := by
  cases t <;> simp [hostRows]

/-- The three places where a transaction is forwarded unchanged whatever it carries (R170, R180). -/
theorem takeTxn_outside {t : HostTxn} {s : State} (hform : txnFault t = none)
    (hplace : s.part = .reset ∨ (s.part = .failed ∧ areaOffset s (txnAddr t) = none)
      ∨ (s.part = .running ∧ areaOffset s (txnAddr t) = none ∧ regionOf s (txnAddr t) = none)) :
    takeTxn t s = forwardPlain t s := by
  rcases hplace with hreset | ⟨hfailed, harea⟩ | ⟨hrunning, harea, hregion⟩
  · exact takeTxn_reset hreset hform
  · rw [takeTxn_failed hfailed hform, takeFailed_outside harea]
  · exact takeTxn_plain hrunning hform harea hregion

/-- A READ of a region whose bytes no unit holds is forwarded unchanged (R170). -/
theorem readRegion_plain {g : Region} (hkind : g.kind = .audio ∨ g.kind = .greeting ∨ g.kind = .report) (r : HostRead)
    (s : State) : readRegion g r s = forwardPlain (.read r) s := by
  rcases hkind with hkind | hkind | hkind <;> simp only [readRegion, hkind]

/-! ### The regions of the shadow (R167, R168, R170) -/

theorem regionOf_eq_some {s : State} {addr : Nat} {g : Region} (h : regionOf s addr = some g) :
    g ∈ s.transit.regions ∧ g.base ≤ addr ∧ addr < g.base + g.size := by
  refine ⟨List.mem_of_find?_eq_some h, ?_⟩
  simpa using List.find?_some h

theorem regionOf_eq_none {s : State} {addr : Nat} :
    regionOf s addr = none ↔ ∀ h ∈ s.transit.regions, ¬ (h.base ≤ addr ∧ addr < h.base + h.size) := by
  simp [regionOf]

/-- The one region of a kind gives the kind its base (R168). -/
theorem regionBase_of_only {s : State} {kind : RegionKind} {g : Region} (hg : g ∈ s.transit.regions)
    (hkind : g.kind = kind) (honly : ∀ h ∈ s.transit.regions, h.kind = kind → h = g) : regionBase s kind = g.base := by
  have hfind : s.transit.regions.find? (·.kind == kind) = some g := by
    cases hfound : s.transit.regions.find? (·.kind == kind) with
    | none => exact absurd (beq_iff_eq.mpr hkind) (List.find?_eq_none.mp hfound g hg)
    | some h =>
      have hofKind : h.kind = kind := by simpa using List.find?_some hfound
      rw [honly h (List.mem_of_find?_eq_some hfound) hofKind]
  rw [regionBase, hfind]
  rfl

/-! ### Lanes and bytes brought to a length (section 9.1, log 8, log 33) -/

theorem take_filled {α : Type} (n : Nat) (xs : List α) (fill : α) (k : Nat) :
    ((xs ++ List.replicate n fill).take n)[k]? = if k < n then some (xs[k]?.getD fill) else none := by
  by_cases hk : k < n
  · rw [List.getElem?_take_of_lt hk, if_pos hk]
    by_cases hin : k < xs.length
    · rw [List.getElem?_append_left hin, List.getElem?_eq_getElem hin, Option.getD_some]
    · have hout : xs.length ≤ k := Nat.le_of_not_lt hin
      rw [List.getElem?_append_right hout, List.getElem?_replicate_of_lt (by omega), List.getElem?_eq_none hout,
        Option.getD_none]
  · rw [if_neg hk, List.getElem?_take_eq_none (Nat.le_of_not_lt hk)]

/-- A byte for which the host presents no lane is not enabled (log 33). -/
theorem writeLanes_getElem? (w : HostWrite) {k : Nat} (hk : k < 8 * w.words.toNat) :
    (writeLanes w)[k]? = some ((w.lanes[k]?).getD ⟨false, 0⟩) :=
  (take_filled _ w.lanes dead k).trans (if_pos hk)

theorem writeLanes_length (w : HostWrite) : (writeLanes w).length = 8 * w.words.toNat := by
  simp [writeLanes, fitLanes]

/-- Settles O31: the places by `takeTxn_outside`, `readRegion_plain` and `writeAreaFailed_plain`, what lies there by
`regionOf_eq_some` and `regionOf_eq_none`. -/
theorem plainTransactionIsForwarded : Obligations.PlainTransactionIsForwarded := by
  refine ⟨fun t s hready hform hplace => ?_, fun kind base r s hready hfalls hkind => ?_,
    fun offset w s hready hpart hform harea hrestart c hc => ?_,
    fun addr s g kind => ⟨rfl, rfl, regionOf_eq_some, regionOf_eq_none, regionBase_of_only⟩,
    fun r w s entries response => ⟨rfl, rfl, rfl, rfl, writeLanes_length w, fun k => writeLanes_getElem? w, rfl, rfl⟩⟩
  · rw [exec_ready (plainTransaction_mem_hostRows _ _) hready, takeTxn_outside hform]
    · cases t <;> rfl
    · simpa only [part_accepted, areaOffset_accepted, regionOf_accepted] using hplace
  · obtain ⟨size, htaken⟩ := takeTxn_read hfalls.accepted
    rw [exec_ready (plainTransaction_mem_hostRows _ _) hready, htaken, readRegion_plain hkind]
    rfl
  · have hrow : c ∈ hostRows s.straps (.write w) := by
      revert c
      simp [hostRows]
    rw [exec_ready hrow hready, takeTxn_failed ((part_accepted _ s).trans hpart) hform,
      takeFailed_write ((areaOffset_accepted _ s _).trans harea), writeAreaFailed_plain hrestart]
    rfl

/-- A misformed transaction asks no room (R165, R174). -/
theorem roomAsked_misformed {t : HostTxn} {fault : FormFault} (h : txnFault t = some fault) (s : State) :
    roomAsked s t = none := by
  simp only [roomAsked, h, Option.isSome_some, if_true]

theorem takeMisformed_eq (t : HostTxn) (fault : FormFault) (s : State) : takeMisformed t fault s =
    if s.part = .running then
      makeReport (.linkMisformed (txnAddr t) (txnKind t) (txnWords t) fault) none none none none
        (joinOrder (some (refusal t)) s)
    else joinOrder (some (refusal t)) s := rfl

/-- Settles O32: the refusal is `takeMisformed`, and `roomAsked_misformed` says that it asks no room. -/
theorem misformedTransactionIsRefused : Obligations.MisformedTransactionIsRefused := by
  refine ⟨fun addr words => rfl, fun t fault s hfault => ⟨roomAsked_misformed hfault s, fun hready => ?_⟩⟩
  rw [exec_ready (linkMisformed_mem_hostRows _ _) hready, takeTxn_misformed hfault, takeMisformed_eq, part_accepted]
  cases t <;> rfl

end Sys2Proof.Machine

namespace Sys2Proof.Machine

/-! ### Memory's answer delivered by the kind of its entry (R166, R177 to R179, R193) -/

theorem exec_memoryAnswer_discarded {s : State} (m : MemAnswer) (h : s.transit.queue = []) :
    exec (.memoryAnswer m) s = .next (settle s) := by
  show Host.Outcome.next (settle (answerTaken m s)) = _
  simp only [answerTaken, h]

/-- A WRITE's answer carries no data, a fault's zero in every byte, and memory's short data is filled with zeros
(R166, log 8). -/
theorem readData_eq (e : Entry) (overlay : List (Option Byte)) (m : MemAnswer) : readData e overlay m =
    if e.kind = .write then []
    else if m.fault then List.replicate (8 * e.words) 0 else overlaid overlay (fitBytes (8 * e.words) m.data) := by
  unfold readData
  cases e.kind <;> rfl

theorem overlaid_nil (bytes : List Byte) : overlaid [] bytes = bytes := by
  cases bytes <;> rfl

section
variable {e : Entry} {m : MemAnswer} {adjusted : Bool} {overlay : List (Option Byte)} {n i : Nat} (s : State)

theorem deliver_host_done (horigin : e.origin = .host adjusted overlay) (hdone : m.fault = false) : deliver e m s =
    fixResponse ⟨if adjusted then .adjusted else .done, readData e overlay m⟩ s := by
  simp [deliver, horigin, hdone, answerStatus]

theorem deliver_host_fault (horigin : e.origin = .host adjusted overlay) (hfault : m.fault = true) : deliver e m s =
    reportHostFault e .host (fixResponse ⟨.memFault, readData e overlay m⟩ s) := by
  simp [deliver, horigin, hfault, answerStatus]

theorem deliver_translated_done (horigin : e.origin = .translated) (hdone : m.fault = false) :
    deliver e m s = fixResponse ⟨.done, readData e [] m⟩ s := by
  simp [deliver, horigin, hdone, answerStatus]

theorem deliver_translated_fault (horigin : e.origin = .translated) (hfault : m.fault = true) : deliver e m s =
    reportHostFault e .translated (fixResponse ⟨.memFault, readData e [] m⟩ s) := by
  simp [deliver, horigin, hfault, answerStatus]

/-- DONE for a stamp or state write does nothing (R177). -/
theorem deliver_partWrite_done (horigin : e.origin = .stamp n ∨ e.origin = .slotState n) (hdone : m.fault = false) :
    deliver e m s = s := by
  rcases horigin with horigin | horigin <;> simp [deliver, horigin, hdone]

theorem deliver_stamp_fault (horigin : e.origin = .stamp n) (hfault : m.fault = true) :
    deliver e m s = reportPartFault e .stamp n s := by
  simp [deliver, horigin, hfault]

theorem deliver_slotState_fault (horigin : e.origin = .slotState n) (hfault : m.fault = true) :
    deliver e m s = reportPartFault e .state n s := by
  simp [deliver, horigin, hfault]

/-- An answer to the loader's own entries does nothing once the load is over, nor DONE for a write of it, nor any to an
entry that only drains (R179, R187). -/
theorem deliver_drains (h : e.origin = .drained ∨ (e.origin = .loadWrite ∧ (m.fault = false ∨ s.part ≠ .loading))
    ∨ ∃ i, e.origin = .loadRead i ∧ s.part ≠ .loading) : deliver e m s = s := by
  rcases h with horigin | ⟨horigin, hdone | hpart⟩ | ⟨i, horigin, hpart⟩
  · simp [deliver, horigin]
  · simp [deliver, horigin, hdone]
  · simp [deliver, horigin, hpart]
  · simp [deliver, horigin, hpart]

variable {s}

theorem deliver_loadRead (horigin : e.origin = .loadRead i) (hpart : s.part = .loading) (hdone : m.fault = false) :
    deliver e m s = loaderAnswered i m.data s := by
  simp [deliver, horigin, hpart, hdone]

/-- DONE for a report write advances the producer index (R193). -/
theorem deliver_report_done {r : Report} (horigin : e.origin = .report) (hwriting : s.reports.writing = some r)
    (hdone : m.fault = false) : deliver e m s =
    { s with reports := { s.reports with writing := none, producer := (s.reports.producer + 1) % 256 } } := by
  simp [deliver, horigin, reportAnswered, hwriting, hdone]

/-- MEMFAULT for a report write drops its report (R193). -/
theorem deliver_report_fault {r : Report} (horigin : e.origin = .report) (hwriting : s.reports.writing = some r)
    (hfault : m.fault = true) : deliver e m s =
    { s with reports := { s.reports with writing := none, dropped := true } } := by
  simp [deliver, horigin, reportAnswered, hwriting, hfault]

end

/-! ### The record a MEMFAULT names (R178) -/

section
variable {s : State} {addr base size : Nat}

theorem faultNames_slotDir (hpart : s.part = .running) (hregion : regionOf s addr = some ⟨.slotDir, base, size⟩) :
    faultNames s addr = (some (slotAt s ((addr - base) / 32)).owner, some ((addr - base) / 32)) := by
  simp only [faultNames, hpart, hregion]

theorem faultNames_mailboxDir (hpart : s.part = .running)
    (hregion : regionOf s addr = some ⟨.mailboxDir, base, size⟩) :
    faultNames s addr = (some ((addr - base) / 64), none) := by
  simp only [faultNames, hpart, hregion]

theorem faultNames_none (h : s.part ≠ .running
    ∨ ∀ g, regionOf s addr = some g → g.kind ≠ .slotDir ∧ g.kind ≠ .mailboxDir) :
    faultNames s addr = (none, none) := by
  unfold faultNames
  split
  · next b z hpart hregion => exact h.elim (absurd hpart) fun hother => absurd rfl (hother _ hregion).1
  · next b z hpart hregion => exact h.elim (absurd hpart) fun hother => absurd rfl (hother _ hregion).2
  · rfl

end

/-! ### The response order and the bytes of a response (R172, R176, log 8) -/

theorem fixFirst_unfixed (r : Response) (known : List Response) (later : List (Option Response)) :
    fixFirst r (known.map some ++ none :: later) = known.map some ++ some r :: later := by
  induction known with
  | nil => rfl
  | cons x known ih => simp only [List.map_cons, List.cons_append, fixFirst, ih]

/-- A byte overlaid shows its sampled value, any other byte memory's (R172). -/
theorem overlaid_getElem? (overlay : List (Option Byte)) (bytes : List Byte) (k : Nat) :
    (overlaid overlay bytes)[k]?
      = bytes[k]?.map (fun b => match overlay[k]? with | some (some v) => v | _ => b) := by
  induction overlay generalizing bytes k with
  | nil => simp [overlaid_nil]
  | cons o overlay ih =>
    cases bytes with
    | nil => cases o <;> simp [overlaid]
    | cons b bytes => cases o <;> cases k <;> simp [overlaid, ih]

/-- Settles O43: the answers by the lemmas on `deliver`, with a response's data as `readData_eq` gives it; the names by
those on `faultNames`. -/
theorem answerGoesToTheOldestEntry : Obligations.AnswerGoesToTheOldestEntry := by
  refine ⟨fun m e rest s => ⟨exec_memoryAnswer_discarded m, fun hqueue => ?_⟩,
    fun s addr base size => ⟨faultNames_slotDir, faultNames_mailboxDir, faultNames_none⟩, fixFirst_unfixed,
    fun overlay bytes n k => ⟨overlaid_getElem? overlay bytes k, take_filled n bytes 0 k⟩⟩
  intro u rested fixed data
  have hanswer : ∀ {v : State}, deliver e m u = v → exec (.memoryAnswer m) s = .next (rested v) := by
    rintro _ rfl
    exact exec_memoryAnswer m hqueue
  have hfaultData : ∀ overlay, m.fault = true → readData e overlay m = data := fun overlay hfault => by
    simp only [readData_eq, data, hfault, if_true]
  refine ⟨fun adjusted overlay horigin hdone => ?_, fun adjusted overlay horigin hfault => ?_,
    fun horigin hfault => ?_, fun horigin hdone hkind => ?_,
    fun n horigin hdone => hanswer (deliver_partWrite_done u horigin hdone),
    fun n horigin hfault => hanswer (deliver_stamp_fault u horigin hfault),
    fun n horigin hfault => hanswer (deliver_slotState_fault u horigin hfault),
    fun r horigin hwriting hdone => hanswer (deliver_report_done horigin hwriting hdone),
    fun r horigin hwriting hfault => hanswer (deliver_report_fault horigin hwriting hfault),
    fun i horigin hpart hdone => hanswer (deliver_loadRead horigin hpart hdone),
    fun hdrains => hanswer (deliver_drains u hdrains)⟩
  · have hdata : readData e overlay m = if e.kind = .write then [] else overlaid overlay data := by
      rw [readData_eq]
      by_cases hkind : e.kind = .write <;> simp [data, hkind, hdone]
    have hdelivered := deliver_host_done u horigin hdone
    rw [hdata] at hdelivered
    exact hanswer hdelivered
  · have hdelivered := deliver_host_fault u horigin hfault
    rw [hfaultData overlay hfault] at hdelivered
    exact hanswer hdelivered
  · have hdelivered := deliver_translated_fault u horigin hfault
    rw [hfaultData [] hfault] at hdelivered
    exact hanswer hdelivered
  · have hdata : readData e [] m = data := by
      simp [readData_eq, data, hkind, hdone, overlaid_nil]
    have hdelivered := deliver_translated_done u horigin hdone
    rw [hdata] at hdelivered
    exact hanswer hdelivered

end Sys2Proof.Machine

namespace Sys2Proof.Machine

/-! ### The queue of waiting commands, which no command touches (log 4) -/

@[simp] theorem clearShadows_pending (s : State) : (clearShadows s).pending = s.pending := rfl

@[simp] theorem failLoad_pending (cause : LoadFailure) (s : State) : (failLoad cause s).pending = s.pending := rfl

@[simp] theorem enterLoading_pending (s : State) : (enterLoading s).pending = s.pending := rfl

theorem enterFailed_pending (cause : LoadFailure) (s : State) : (enterFailed cause s).pending = s.pending := by
  rw [enterFailed_changes, clearShadows_pending]

theorem releaseReset_pending (straps : BitVec 4) (s : State) : (releaseReset straps s).pending = s.pending := by
  unfold releaseReset
  split
  · exact enterLoading_pending _
  · rfl

/-! #### A load's lines -/

section
variable (s : State)

@[simp] theorem countTable_pending : (countTable s).pending = s.pending := rfl

@[simp] theorem countBox_pending : (countBox s).pending = s.pending := rfl

@[simp] theorem countSlot_pending : (countSlot s).pending = s.pending := rfl

@[simp] theorem loaderWrites_pending (g : List Entry) : (loaderWrites g s).pending = s.pending := rfl

theorem loadStepOne_pending (b : List Byte) : (loadStepOne b s).pending = s.pending := by
  unfold loadStepOne loadConsumer loadHeader
  dsimp only
  (repeat' split) <;> simp

theorem loadClass_pending (i : Nat) (b : List Byte) : (loadClass i b s).pending = s.pending := by
  unfold loadClass
  split <;> rfl

theorem loadCalibration_pending (i : Nat) (b : List Byte) : (loadCalibration i b s).pending = s.pending := by
  unfold loadCalibration
  split <;> rfl

theorem loadBreaks_pending (b : List Byte) : (loadBreaks b s).pending = s.pending := by
  unfold loadBreaks
  split <;> rfl

theorem loadSchedule_pending (i : Nat) (b : List Byte) : (loadSchedule i b s).pending = s.pending := by
  unfold loadSchedule
  split <;> rfl

theorem loadBroadcast_pending (i : Nat) (b : List Byte) : (loadBroadcast i b s).pending = s.pending := by
  unfold loadBroadcast
  split <;> rfl

theorem loadShelf_pending (i : Nat) (b : List Byte) : (loadShelf i b s).pending = s.pending := by
  unfold loadShelf
  split <;> rfl

theorem loadBox_pending (m : Nat) (b : List Byte) : (loadBox m b s).pending = s.pending := by
  unfold loadBox
  dsimp only
  (repeat' split) <;> simp

theorem loadSlot_pending (n : Nat) (b : List Byte) : (loadSlot n b s).pending = s.pending := by
  unfold loadSlot
  dsimp only
  (repeat' split) <;> simp

end

theorem loadRecords_pending {f : Nat → List Byte → State → State} (hf : ∀ s n b, (f n b s).pending = s.pending)
    (first size : Nat) (data : List Byte) (is : List Nat) (s : State) :
    (loadRecords f first size data is s).pending = s.pending := by
  induction is generalizing s with
  | nil => rfl
  | cons i is ih => exact (ih _).trans (hf _ _ _)

theorem loaderAnswered_pending (i : Nat) (data : List Byte) (s : State) :
    (loaderAnswered i data s).pending = s.pending := by
  unfold loaderAnswered judgeLine
  (repeat' split) <;> simp only [loadStepOne_pending, loadBreaks_pending, loadRecords_pending loadClass_pending,
    loadRecords_pending loadCalibration_pending, loadRecords_pending loadSchedule_pending,
    loadRecords_pending loadBroadcast_pending, loadRecords_pending loadShelf_pending,
    loadRecords_pending loadBox_pending, loadRecords_pending loadSlot_pending, updateLoader_pending]

theorem finishLoad_pending (s : State) : (finishLoad s).pending = s.pending := by
  unfold finishLoad
  split
  · have hbuilt : (buildDerived s).pending = s.pending := by rw [buildDerived_frame]
    unfold enterRunning
    dsimp only
    (repeat' split) <;> simp [hbuilt]
  · rfl

/-! #### Memory's answer, a host transaction taken, the part coming to rest -/

theorem deliver_pending (e : Entry) (m : MemAnswer) (s : State) : (deliver e m s).pending = s.pending := by
  unfold deliver reportHostFault reportPartFault
  dsimp only
  (repeat' split) <;> simp [loaderAnswered_pending]

theorem answerTaken_pending (m : MemAnswer) (s : State) : (answerTaken m s).pending = s.pending :=
  answerTaken_keeps (fun u => u.pending = s.pending) s m rfl (fun e _ _ => deliver_pending e m _)
    fun cause u hu _ _ => (enterFailed_pending cause u).trans hu

theorem takeTxn_pending (t : HostTxn) (s : State) : (takeTxn t s).pending = s.pending := by
  refine takeTxn_cases (I := fun u => u.pending = s.pending) (fun f _ => ?_) (fun _ _ => ?_) (fun o _ _ _ => ?_)
    (fun o _ _ => ?_) (fun g _ _ _ _ => ?_) fun _ => rfl
  · simp
  · simp
  · unfold takeArea writeArea acceptArea
    dsimp only
    (repeat' split) <;> simp
  · unfold takeAreaFailed writeAreaFailed
    dsimp only
    (repeat' split) <;> simp
  · unfold takeRegion readRegion writeRegion guardedWrite
    (repeat' split) <;> simp

theorem acceptHead_pending (s : State) : (acceptHead s).pending = s.pending := by
  cases harrivals : s.transit.arrivals with
  | nil => rw [acceptHead, harrivals]
  | cons t rest => rw [acceptHead_eq harrivals, takeTxn_pending]

theorem serve_pending (n : Nat) (s : State) : (serve n s).pending = s.pending := by
  induction n generalizing s with
  | zero => rfl
  | succ n ih =>
    unfold serve
    split
    · simp only [ih, calm_keeps, acceptHead_pending]
    · rfl

theorem settle_pending (s : State) : (settle s).pending = s.pending := by
  simp only [settle, serve_pending, calm_keeps]

theorem hostArrives_pending (t : HostTxn) (s : State) : (hostArrives t s).pending = s.pending := settle_pending _

/-! #### Grants -/

theorem grantTo_pending (q : Requester) {go : State → State} (hgo : ∀ u, (go u).pending = u.pending) (s : State) :
    (grantTo q go s).pending = s.pending := by
  unfold grantTo
  split
  · simp only [hgo, setTurn_pending, passTurn_keeps]
  · rfl

theorem takeClaim_pending (s : State) : (takeClaim s).pending = s.pending := by
  unfold takeClaim
  split <;> simp

theorem placeLoaded_pending (s : State) : (placeLoaded s).pending = s.pending := by
  unfold placeLoaded
  split <;> simp

theorem sweepStep_pending (s : State) : (sweepStep s).pending = s.pending := by
  unfold sweepStep
  split
  · exact grantTo_pending .sweep (fun u => by simp) s
  · simp
  · simp
  · rfl

/-- Every event and grant takes effect, then the part comes to rest; a host row is an arrival. No command ends in a
fault or a refusal. -/
theorem exec_next (c : Instr) (s : State) : ∃ t, exec c s = .next t ∧ t.pending = s.pending := by
  cases c
  case memoryAnswer m => exact ⟨_, rfl, (settle_pending _).trans (answerTaken_pending m s)⟩
  case depositIdleExpiry k =>
    refine ⟨_, rfl, (settle_pending _).trans ?_⟩
    split
    · simp
    · rfl
  case timeoutClaim => exact ⟨_, rfl, (settle_pending _).trans (grantTo_pending .deposit takeClaim_pending s)⟩
  case sweepVisit => exact ⟨_, rfl, (settle_pending _).trans (sweepStep_pending s)⟩
  case reportWrite => exact ⟨_, rfl, (settle_pending _).trans (grantTo_pending .control (fun u => by simp) s)⟩
  case loaderRoomGrant => exact ⟨_, rfl, (settle_pending _).trans (grantTo_pending .loader placeLoaded_pending s)⟩
  case calendarAdvance => exact ⟨_, rfl, (settle_pending _).trans (by simp)⟩
  case latchIdleExpiry k => exact ⟨_, rfl, (settle_pending _).trans (by simp)⟩
  case cadenceTick => exact ⟨_, rfl, (settle_pending _).trans (by simp)⟩
  case probeMomentReached e => exact ⟨_, rfl, (settle_pending _).trans (by simp)⟩
  case frameEnd k => exact ⟨_, rfl, (settle_pending _).trans (by simp)⟩
  case replyReceived k bits => exact ⟨_, rfl, (settle_pending _).trans (by simp)⟩
  case replyTimeout k => exact ⟨_, rfl, (settle_pending _).trans (by simp)⟩
  case replyFirstWord k => exact ⟨_, rfl, (settle_pending _).trans (by simp)⟩
  case resetAsserted => exact ⟨_, rfl, settle_pending _⟩
  case resetReleased straps => exact ⟨_, rfl, (settle_pending _).trans (releaseReset_pending straps s)⟩
  case loadDone => exact ⟨_, rfl, (settle_pending _).trans (finishLoad_pending s)⟩
  case procStopped => exact ⟨_, rfl, (settle_pending _).trans (by simp)⟩
  case procRunning => exact ⟨_, rfl, (settle_pending _).trans (by simp)⟩
  case prunChangeNotRunning high => exact ⟨_, rfl, (settle_pending _).trans (by simp)⟩
  all_goals exact ⟨_, rfl, hostArrives_pending _ _⟩

/-- Settles O1: the step by its definition, the next state and the queue by `exec_next`. -/
theorem stepRunsFrontCommandToANextState : Obligations.StepRunsFrontCommandToANextState := by
  refine ⟨fun c rest s hpending => ?_, exec_next⟩
  simp only [step, hpending]

end Sys2Proof.Machine

namespace Sys2Proof.Machine

/-! ### Records written field by field (section 11) -/

/-- The bytes of a record from a place on, whose fields are given in rising order by offset, size and value: each field
little-endian, and zero in every byte between two fields. -/
def layout : Nat → List (Nat × Nat × Nat) → List Byte
  | _, [] => []
  | start, (offset, size, value) :: fields =>
      zeros (offset - start) ++ (leBytes size value ++ layout (offset + size) fields)

/-- The fields rise from a place on and do not overlap. -/
def rising : Nat → List (Nat × Nat × Nat) → Bool
  | _, [] => true
  | start, (offset, size, _) :: fields => decide (start ≤ offset) && rising (offset + size) fields

@[simp] theorem leBytes_length (n v : Nat) : (leBytes n v).length = n := by
  induction n generalizing v with
  | zero => rfl
  | succ n ih => rw [leBytes, List.length_cons, ih]

theorem leNat_leBytes (n v : Nat) : leNat (leBytes n v) = v % 256 ^ n := by
  induction n generalizing v with
  | zero => simp [leBytes, leNat, Nat.mod_one]
  | succ n ih =>
    have hpow : (256 : Nat) ^ (n + 1) = 256 * 256 ^ n := Nat.pow_succ'
    rw [leBytes, leNat, ih, BitVec.toNat_ofNat, hpow, Nat.mod_mul]

@[simp] theorem zeros_length (n : Nat) : (zeros n).length = n := List.length_replicate ..

/-- A field behind some bytes is read behind them. -/
theorem fieldOf_append_right (xs ys : List Byte) (offset size : Nat) :
    fieldOf (xs ++ ys) (xs.length + offset) size = fieldOf ys offset size := by
  rw [fieldOf, List.drop_length_add_append, fieldOf]

theorem fieldOf_append_left (xs ys : List Byte) : fieldOf (xs ++ ys) 0 xs.length = leNat xs := by
  rw [fieldOf, List.drop_zero, List.take_left]

theorem fieldOf_zeros_append (n : Nat) (ys : List Byte) (offset size : Nat) :
    fieldOf (zeros n ++ ys) (n + offset) size = fieldOf ys offset size := by
  simpa using fieldOf_append_right (zeros n) ys offset size

theorem fieldOf_leBytes_append (n v : Nat) (ys : List Byte) (offset size : Nat) :
    fieldOf (leBytes n v ++ ys) (n + offset) size = fieldOf ys offset size := by
  simpa using fieldOf_append_right (leBytes n v) ys offset size

theorem fieldOf_leBytes (n v : Nat) (ys : List Byte) : fieldOf (leBytes n v ++ ys) 0 n = v % 256 ^ n := by
  have h := fieldOf_append_left (leBytes n v) ys
  rwa [leBytes_length, leNat_leBytes] at h

/-- A field of a record reads as its value, cut to the field's size. -/
theorem fieldOf_layout {start offset size value : Nat} {fields : List (Nat × Nat × Nat)}
    (hrise : rising start fields = true) (hfield : (offset, size, value) ∈ fields) (rest : List Byte) :
    start ≤ offset ∧ fieldOf (layout start fields ++ rest) (offset - start) size = value % 256 ^ size := by
  induction fields generalizing start with
  | nil => cases hfield
  | cons f fields ih =>
    obtain ⟨o, n, v⟩ := f
    simp only [rising, Bool.and_eq_true, decide_eq_true_eq] at hrise
    obtain ⟨hstart, hrest⟩ := hrise
    rw [layout, List.append_assoc, List.append_assoc]
    rcases List.mem_cons.mp hfield with hhead | htail
    · cases hhead
      exact ⟨hstart, (fieldOf_zeros_append _ _ 0 _).trans (fieldOf_leBytes _ _ _)⟩
    · obtain ⟨hbehind, hread⟩ := ih hrest htail
      refine ⟨by omega, ?_⟩
      have hplace : offset - start = (o - start) + (n + (offset - (o + n))) := by omega
      rw [hplace, fieldOf_zeros_append, fieldOf_leBytes_append, hread]

/-- Cutting a number to its low bytes keeps each of them. -/
theorem byte_of_mod {n j : Nat} (hj : j < n) (v : Nat) : v % 256 ^ n / 256 ^ j % 256 = v / 256 ^ j % 256 := by
  have hsplit : 256 ^ n = 256 ^ j * 256 ^ (n - j) := by rw [← Nat.pow_add, Nat.add_sub_cancel' (Nat.le_of_lt hj)]
  have hdvd : 256 ∣ 256 ^ (n - j) := Nat.pow_dvd_pow 256 (show 1 ≤ n - j by omega)
  rw [hsplit, Nat.mod_mul_right_div_self, Nat.mod_mod_of_dvd _ hdvd]

theorem byteOf_eq (bytes : List Byte) (k : Nat) : byteOf bytes k = (bytes[k]?.getD 0).toNat := by
  rw [byteOf, fieldOf, ← List.head?_drop]
  cases bytes.drop k with
  | nil => rfl
  | cons b rest => simp [leNat]

/-- A byte that no field names is zero. -/
theorem byteOf_layout_gap {start k : Nat} {fields : List (Nat × Nat × Nat)} (hrise : rising start fields = true)
    (hk : start ≤ k) (hgap : ∀ f ∈ fields, ¬ (f.1 ≤ k ∧ k < f.1 + f.2.1)) :
    byteOf (layout start fields) (k - start) = 0 := by
  induction fields generalizing start with
  | nil => simp [layout, byteOf_eq]
  | cons f fields ih =>
    obtain ⟨o, n, v⟩ := f
    simp only [rising, Bool.and_eq_true, decide_eq_true_eq] at hrise
    obtain ⟨hstart, hrest⟩ := hrise
    obtain ⟨hhead, htail⟩ := List.forall_mem_cons.mp hgap
    rw [layout]
    by_cases hbefore : k < o
    · have hzero : k - start < o - start := by omega
      rw [byteOf_eq, List.getElem?_append_left (by simpa using hzero)]
      simp [zeros, hzero]
    · have hbehind : o + n ≤ k := by
        simp only at hhead
        omega
      have hplace : k - start = (o - start) + (n + (k - (o + n))) := by omega
      rw [hplace, byteOf, fieldOf_zeros_append, fieldOf_leBytes_append]
      exact ih hrest hbehind htail

/-- Filling up with zeros changes no byte. -/
theorem byteOf_detail8 (bytes : List Byte) {k : Nat} (hk : k < 8) : byteOf (detail8 bytes) k = byteOf bytes k := by
  have hfilled : (detail8 bytes)[k]? = some (bytes[k]?.getD 0) := (take_filled 8 bytes 0 k).trans (if_pos hk)
  rw [byteOf_eq, byteOf_eq, hfilled, Option.getD_some]

@[simp] theorem detail8_length (bytes : List Byte) : (detail8 bytes).length = 8 := by
  simp [detail8, zeros]

/-- A kind whose detail is a record of rising fields reads as those fields (section 11.7). -/
theorem KindReads.of_layout {body : ReportBody} {code : Nat} {fields : List (Nat × Nat × Nat)}
    (hcode : reportCode body = code) (hrise : rising 0 fields = true)
    (hdetail : reportDetail body = detail8 (layout 0 fields)) : KindReads body code fields := by
  refine ⟨hcode, by rw [hdetail, detail8_length], fun k hk => ?_⟩
  rw [hdetail, byteOf_detail8 _ hk]
  split
  · next f hfound =>
    obtain ⟨offset, size, value⟩ := f
    have hinside : offset ≤ k ∧ k < offset + size := by simpa using List.find?_some hfound
    obtain ⟨-, hread⟩ := fieldOf_layout hrise (List.mem_of_find?_eq_some hfound) []
    rw [List.append_nil, Nat.sub_zero] at hread
    have hbyte := fieldOf_byte (layout 0 fields) offset (show k - offset < size by omega)
    rw [Nat.add_sub_cancel' hinside.1, hread] at hbyte
    rw [← hbyte, byte_of_mod (by omega)]
  · next hnone =>
    refine byteOf_layout_gap hrise (Nat.zero_le k) fun f hf hinside => ?_
    have hother := List.find?_eq_none.mp hnone f hf
    simp only [Bool.and_eq_true, decide_eq_true_eq] at hother
    exact hother hinside

/-! ### The 32 bytes of a report (section 11.7) -/

/-- A yes/no byte holds 00h or 01h (section 11.1). -/
theorem yesNo_eq (b : Bool) : yesNo b = BitVec.ofNat 8 (if b then 1 else 0) := by
  cases b <;> rfl

/-- The fields of a report record before its detail (section 11.7). -/
def recordFields (index : Nat) (r : Report) : List (Nat × Nat × Nat) :=
  [(0, 1, reportCode r.body), (1, 1, if isError r.body then 1 else 0), (2, 2, r.mailbox.getD 0xffff),
    (4, 4, r.extension), (8, 2, optionalNat r.slot .reportSlot index 2), (10, 1, if r.slot.isSome then 1 else 0),
    (11, 1, r.shelf.getD 0xff), (12, 4, optionalNat (r.tag.map (·.toNat)) .reportTag index 4),
    (16, 1, if r.tag.isSome then 1 else 0), (17, 1, if r.reading.isSet then 1 else 0), (18, 2, r.reading.day),
    (20, 2, r.reading.minute), (22, 1, r.reading.second), (23, 1, 0)]

theorem reportBytes_eq (index : Nat) (r : Report) :
    reportBytes index r = layout 0 (recordFields index r) ++ reportDetail r.body := by
  simp only [reportBytes, yesNo_eq]
  rfl

/-- Each field before the detail reads as its value, by its number in `recordFields`. -/
theorem fieldOf_reportBytes {index i offset size value : Nat} {r : Report}
    (hfield : (recordFields index r)[i]? = some (offset, size, value)) :
    fieldOf (reportBytes index r) offset size = value % 256 ^ size := by
  rw [reportBytes_eq]
  exact (fieldOf_layout (start := 0) rfl (List.mem_of_getElem? hfield) (reportDetail r.body)).2

theorem countBytes_length (n : Nat) : (countBytes n).length = 2 := by
  unfold countBytes
  split <;> rw [leBytes_length]

theorem reportDetail_length (body : ReportBody) : (reportDetail body).length = 8 := by
  cases body with
  | loadFailed cause => cases cause <;> rfl
  | _ => exact detail8_length _

theorem reportBytes_length (index : Nat) (r : Report) : (reportBytes index r).length = 32 := by
  rw [reportBytes_eq, List.length_append, reportDetail_length]
  rfl

theorem reportBytes_drop (index : Nat) (r : Report) : (reportBytes index r).drop 24 = reportDetail r.body := by
  rw [reportBytes_eq]
  exact List.drop_left' rfl

/-- Every code is one byte (section 11.7). -/
theorem reportCode_lt (body : ReportBody) : reportCode body < 256 := by
  cases body <;> simp [reportCode]

theorem flag_mod (b : Bool) : (if b then 1 else 0) % 256 ^ 1 = if b then 1 else 0 := by
  cases b <;> rfl

section
variable (index : Nat) (r : Report)

theorem reportBytes_code : byteOf (reportBytes index r) 0 = reportCode r.body :=
  (fieldOf_reportBytes (i := 0) rfl).trans (Nat.mod_eq_of_lt (reportCode_lt r.body))

theorem reportBytes_severity : byteOf (reportBytes index r) 1 = if 0x20 < reportCode r.body then 1 else 0 := by
  rw [byteOf, fieldOf_reportBytes (i := 1) rfl, flag_mod]
  simp only [isError, decide_eq_true_eq]

theorem reportBytes_mailbox :
    fieldOf (reportBytes index r) 2 2 = match r.mailbox with | some m => m % 65536 | none => 0xffff := by
  rw [fieldOf_reportBytes (i := 2) rfl]
  cases r.mailbox <;> rfl

theorem reportBytes_shelf :
    byteOf (reportBytes index r) 11 = match r.shelf with | some e => e % 256 | none => 0xff := by
  rw [byteOf, fieldOf_reportBytes (i := 6) rfl]
  cases r.shelf <;> rfl

variable {r}

/-- A report that names a slot shows it (section 11.7). -/
theorem reportBytes_slot {n : Nat} (h : r.slot = some n) :
    fieldOf (reportBytes index r) 8 2 = n % 65536 ∧ byteOf (reportBytes index r) 10 = 1 := by
  rw [byteOf, fieldOf_reportBytes (i := 4) rfl, fieldOf_reportBytes (i := 5) rfl, h]
  exact ⟨rfl, rfl⟩

theorem reportBytes_slot_absent (h : r.slot = none) : byteOf (reportBytes index r) 10 = 0 := by
  rw [byteOf, fieldOf_reportBytes (i := 5) rfl, h]
  rfl

/-- A report of a command carries its tag (section 11.7). -/
theorem reportBytes_tag {tag : BitVec 32} (h : r.tag = some tag) :
    fieldOf (reportBytes index r) 12 4 = tag.toNat ∧ byteOf (reportBytes index r) 16 = 1 := by
  rw [byteOf, fieldOf_reportBytes (i := 7) rfl, fieldOf_reportBytes (i := 8) rfl, h]
  exact ⟨Nat.mod_eq_of_lt tag.isLt, rfl⟩

theorem reportBytes_tag_absent (h : r.tag = none) : byteOf (reportBytes index r) 16 = 0 := by
  rw [byteOf, fieldOf_reportBytes (i := 8) rfl, h]
  rfl

end

/-! ### The detail of each kind (section 11.7) -/

theorem detail8_yesNo (b : Bool) (bytes : List Byte) :
    detail8 (yesNo b :: bytes) = detail8 (BitVec.ofNat 8 (if b then 1 else 0) :: bytes) := by
  rw [yesNo_eq]

/-- A count that two bytes hold is written in them (log 12). -/
theorem mailboxNotEmpty_reads {a : Nat} (h : a ≤ 65535) : KindReads (.mailboxNotEmpty a) 0x28 [(0, 2, a)] := by
  refine .of_layout rfl rfl ?_
  rw [reportDetail, countBytes, if_pos h]
  rfl

end Sys2Proof.Machine

namespace Sys2Proof.Machine

/-! ### What room a request asks (R174, R175) -/

theorem loaderGroup_congr {s u : State} (hpart : u.part = s.part) (hloader : u.loader = s.loader)
    (hctlSel : u.transit.ctlSel = s.transit.ctlSel) (hregions : u.transit.regions = s.transit.regions) :
    loaderGroup u = loaderGroup s := by
  unfold loaderGroup loadAddr controlBase regionBase
  rw [hpart, hloader, hctlSel, hregions]

/-- The loader's request is the oldest group of writes, else the next read (log 18). -/
theorem loaderGroup_eq_some {s : State} {group : List Entry} : loaderGroup s = some group ↔
    s.part = .loading ∧ ∃ l, s.loader = some l ∧ ((∃ gs, l.writes = group :: gs)
      ∨ (l.writes = [] ∧ l.next < 20559 ∧ (l.next < 5 ∨ 5 ≤ l.judged)
        ∧ group = [⟨.read, loadAddr s l.next, 16, [], .loadRead l.next⟩])) := by
  have hreads : loadReads = 20559 := rfl
  unfold loaderGroup
  rw [hreads]
  by_cases hpart : s.part = .loading
  · cases hloader : s.loader with
    | none => simp [hpart]
    | some l =>
      cases hwrites : l.writes with
      | nil => simp [hpart, hwrites, and_assoc, eq_comm (a := group)]
      | cons g gs => simp [hpart, hwrites]
  · simp [hpart]

theorem request_loader {s : State} {n : Nat} : request s .loader = some n ↔
    s.part = .loading ∧ ∃ l, s.loader = some l ∧ ((∃ g gs, l.writes = g :: gs ∧ n = g.length)
      ∨ (l.writes = [] ∧ l.next < 20559 ∧ (l.next < 5 ∨ 5 ≤ l.judged) ∧ n = 1)) := by
  simp only [request, Option.map_eq_some_iff, loaderGroup_eq_some]
  constructor
  · rintro ⟨group, ⟨hpart, l, hloader, ⟨gs, hwrites⟩ | ⟨hwrites, hnext, hjudged, rfl⟩⟩, rfl⟩
    · exact ⟨hpart, l, hloader, .inl ⟨group, gs, hwrites, rfl⟩⟩
    · exact ⟨hpart, l, hloader, .inr ⟨hwrites, hnext, hjudged, rfl⟩⟩
  · rintro ⟨hpart, l, hloader, ⟨g, gs, hwrites, rfl⟩ | ⟨hwrites, hnext, hjudged, rfl⟩⟩
    · exact ⟨g, ⟨hpart, l, hloader, .inl ⟨gs, hwrites⟩⟩, rfl⟩
    · exact ⟨_, ⟨hpart, l, hloader, .inr ⟨hwrites, hnext, hjudged, rfl⟩⟩, rfl⟩

theorem request_upstream {s : State} {t : HostTxn} {later : List HostTxn} (h : s.transit.arrivals = t :: later) :
    request s .upstream = if s.part ≠ .loading ∧ s.transit.order.length < 64 then roomAsked s t else none := by
  simp only [request, h, portOpen, Bool.and_eq_true, bne_iff_ne, decide_eq_true_eq]
  rfl

theorem request_upstream_nil {s : State} (h : s.transit.arrivals = []) : request s .upstream = none := by
  simp only [request, h]

theorem request_control (s : State) : request s .control =
    if s.part ≠ .reset ∧ s.reports.held ≠ [] ∧ s.reports.writing = none ∧ s.reports.base ≠ none then some 1
    else none := by
  simp [request, asksReportWrite, and_assoc, Option.isSome_iff_ne_none]

/-- While RUNNING an address lies outside the Control Area, in a used region of a kind (R170). -/
def LiesIn (kind : RegionKind) (t : HostTxn) (s : State) : Prop :=
  s.part = .running ∧ areaOffset s (txnAddr t) = none ∧ (regionOf s (txnAddr t)).map (·.kind) = some kind

section
variable {t : HostTxn} {s : State}

/-- A slot directory write asks for itself and a stamp write a record (R174). -/
theorem roomAsked_slotDirWrite (hform : txnFault t = none) (hwrite : ∃ w, t = .write w) (hlies : LiesIn .slotDir t s) :
    roomAsked s t = some (1 + (coveredRecords (txnAddr t) (txnWords t) 32).length) := by
  obtain ⟨w, rfl⟩ := hwrite
  obtain ⟨hpart, harea, hregion⟩ := hlies
  simp [roomAsked, hform, hpart, harea, hregion]

/-- A write that its region refuses asks no room (R170, R174). -/
theorem roomAsked_refusedWrite (hwrite : ∃ w, t = .write w) (hlies : LiesIn .aliasWindow t s ∨ LiesIn .report t s) :
    roomAsked s t = none := by
  obtain ⟨w, rfl⟩ := hwrite
  rcases hlies with ⟨hpart, harea, hregion⟩ | ⟨hpart, harea, hregion⟩ <;> simp [roomAsked, hpart, harea, hregion]

/-- Every other well-formed transaction asks one place (R174). -/
theorem roomAsked_one (hform : txnFault t = none)
    (hother : ¬ ((∃ w, t = .write w) ∧ (LiesIn .slotDir t s ∨ LiesIn .aliasWindow t s ∨ LiesIn .report t s))) :
    roomAsked s t = some 1 := by
  have hwellFormed : ¬ (txnFault t).isSome = true := by rw [hform]; simp
  unfold roomAsked
  rw [if_neg hwellFormed]
  split
  · next hinside =>
    obtain ⟨hpart, harea⟩ := hinside
    rw [Option.isNone_iff_eq_none] at harea
    split
    · next w hregion => exact absurd ⟨⟨w, rfl⟩, .inl ⟨hpart, harea, hregion⟩⟩ hother
    · next w hregion => exact absurd ⟨⟨w, rfl⟩, .inr (.inl ⟨hpart, harea, hregion⟩)⟩ hother
    · next w hregion => exact absurd ⟨⟨w, rfl⟩, .inr (.inr ⟨hpart, harea, hregion⟩)⟩ hother
    · rfl
  · rfl

end

/-! ### The turn (R175, log 40) -/

theorem repeat_succ (k : Nat) (q : Requester) :
    Nat.repeat nextRequester (k + 1) q = Nat.repeat nextRequester k (nextRequester q) := by
  induction k with
  | zero => rfl
  | succ k ih => exact congrArg nextRequester ih

/-- The turn is sought in the rotation: the first requester from one on that has a request. -/
theorem seekTurn_first {s : State} {m k : Nat} {q : Requester} (hk : k < m)
    (hwaits : request s (Nat.repeat nextRequester k q) ≠ none)
    (hnone : ∀ i, i < k → request s (Nat.repeat nextRequester i q) = none) :
    seekTurn s m q = some (Nat.repeat nextRequester k q) := by
  induction m generalizing k q with
  | zero => omega
  | succ m ih =>
    rw [seekTurn]
    cases k with
    | zero => exact if_pos (Option.isSome_iff_ne_none.mpr hwaits)
    | succ k =>
      have hpassed : request s q = none := hnone 0 (by omega)
      rw [hpassed, repeat_succ]
      exact ih (by omega) (repeat_succ k q ▸ hwaits) fun i hi => repeat_succ i q ▸ hnone (i + 1) (by omega)

theorem seekTurn_none {s : State} (h : ∀ r, request s r = none) (m : Nat) (q : Requester) : seekTurn s m q = none := by
  induction m generalizing q with
  | zero => rfl
  | succ m ih => rw [seekTurn, h q, ih]; rfl

section
variable {s : State}

theorem passTurn_reset (h : s.part = .reset) : passTurn s = setTurn .upstream s := by
  rw [passTurn, if_pos h]

theorem passTurn_first {k : Nat} (hk : k < 5) (hpart : s.part ≠ .reset)
    (hwaits : request s (Nat.repeat nextRequester k s.transit.turn) ≠ none)
    (hnone : ∀ i, i < k → request s (Nat.repeat nextRequester i s.transit.turn) = none) :
    passTurn s = setTurn (Nat.repeat nextRequester k s.transit.turn) s := by
  rw [passTurn, if_neg hpart, seekTurn_first hk hwaits hnone, Option.getD_some]

theorem passTurn_none (h : ∀ r, request s r = none) (hpart : s.part ≠ .reset) : passTurn s = s := by
  rw [passTurn, if_neg hpart, seekTurn_none h]
  rfl

theorem isGranted_iff {q : Requester} : isGranted q s = true ↔
    s.transit.turn = q ∧ ∃ n, request s q = some n ∧ n ≤ 32 - s.transit.queue.length := by
  have hroom : freeRoom s = 32 - s.transit.queue.length := rfl
  rw [isGranted, hroom, Bool.and_eq_true, beq_iff_eq]
  cases request s q <;> simp

end

/-! ### Grants to the report unit and the loader (R193, R174, R188, log 3) -/

section
variable {s : State}

theorem exec_reportWrite_granted (hgrant : isGranted .control (passTurn s) = true) :
    exec .reportWrite s = .next (settle (writeReport (setTurn .loader (passTurn s)))) :=
  congrArg (fun u => Host.Outcome.next (settle u)) (grantTo_granted writeReport hgrant)

theorem exec_reportWrite_waits (hgrant : isGranted .control (passTurn s) = false) :
    exec .reportWrite s = .next (settle s) :=
  congrArg (fun u => Host.Outcome.next (settle u)) (grantTo_waits writeReport hgrant)

theorem exec_loaderRoomGrant_granted (hgrant : isGranted .loader (passTurn s) = true) :
    exec .loaderRoomGrant s = .next (settle (placeLoaded (setTurn .upstream (passTurn s)))) :=
  congrArg (fun u => Host.Outcome.next (settle u)) (grantTo_granted placeLoaded hgrant)

theorem exec_loaderRoomGrant_waits (hgrant : isGranted .loader (passTurn s) = false) :
    exec .loaderRoomGrant s = .next (settle s) :=
  congrArg (fun u => Host.Outcome.next (settle u)) (grantTo_waits placeLoaded hgrant)

/-- The oldest held report goes to the ring entry of the producer index (R193). -/
theorem writeReport_eq {r : Report} {held : List Report} {base : Nat} (hheld : s.reports.held = r :: held)
    (hbase : s.reports.base = some base) : writeReport s = place
      [⟨.write, base + s.reports.producer * 32, 4, (reportBytes s.transit.joined r).map fun b => ⟨true, b⟩, .report⟩]
      { s with reports := { s.reports with held := held, writing := some r } } := by
  simp only [writeReport, hheld, hbase]
  rfl

theorem placeLoaded_eq {g : List Entry} {l : Loader} (hgroup : loaderGroup s = some g) (hloader : s.loader = some l) :
    placeLoaded s = place g { s with loader := some (loaderPlaced l) } := by
  simp only [placeLoaded, hgroup, updateLoader, hloader, Option.map_some]

/-- A loader that has been granted room has a group to place (R174). -/
theorem loaderGroup_granted (hgrant : isGranted .loader (passTurn s) = true) : ∃ g, loaderGroup s = some g := by
  obtain ⟨n, hn, -⟩ := isGranted_room hgrant
  obtain ⟨g, hg, -⟩ := Option.map_eq_some_iff.mp hn
  exact ⟨g, hg⟩

theorem loaderRoomGrant_places {l : Loader} {g : List Entry} (hgrant : isGranted .loader (passTurn s) = true)
    (hloader : s.loader = some l) (hgroup : loaderGroup s = some g) : exec .loaderRoomGrant s = .next (settle (place g
      { setTurn .upstream (passTurn s) with loader := some (loaderPlaced l) })) := by
  have hturned : loaderGroup (setTurn .upstream (passTurn s)) = some g :=
    (loaderGroup_congr (by simp) (by simp) (by simp) (by simp)).trans hgroup
  rw [exec_loaderRoomGrant_granted hgrant, placeLoaded_eq hturned (by simpa using hloader)]

/-- The waiting writes go before the next read (log 18). -/
theorem loaderRoomGrant_writes {l : Loader} {g : List Entry} {gs : List (List Entry)}
    (hgrant : isGranted .loader (passTurn s) = true) (hloader : s.loader = some l) (hwrites : l.writes = g :: gs) :
    exec .loaderRoomGrant s = .next (settle (place g
      { setTurn .upstream (passTurn s) with loader := some { l with writes := gs } })) := by
  obtain ⟨group, hgroup⟩ := loaderGroup_granted hgrant
  obtain ⟨hpart, -⟩ := loaderGroup_eq_some.mp hgroup
  rw [loaderRoomGrant_places hgrant hloader (loaderGroup_eq_some.mpr ⟨hpart, l, hloader, .inl ⟨gs, hwrites⟩⟩)]
  simp only [loaderPlaced, hwrites]

theorem loaderRoomGrant_reads {l : Loader} (hgrant : isGranted .loader (passTurn s) = true)
    (hloader : s.loader = some l) (hwrites : l.writes = []) : exec .loaderRoomGrant s = .next (settle (place
      [⟨.read, loadAddr s l.next, 16, [], .loadRead l.next⟩]
      { setTurn .upstream (passTurn s) with loader := some { l with next := l.next + 1 } })) := by
  obtain ⟨group, hgroup⟩ := loaderGroup_granted hgrant
  obtain ⟨hpart, held, hheld, hrequest⟩ := loaderGroup_eq_some.mp hgroup
  cases hloader.symm.trans hheld
  rcases hrequest with ⟨gs, hsome⟩ | ⟨-, -, -, rfl⟩
  · cases hwrites.symm.trans hsome
  · rw [loaderRoomGrant_places hgrant hloader hgroup]
    simp only [loaderPlaced, hwrites]

theorem reportWrite_places {r : Report} {held : List Report} {base : Nat}
    (hgrant : isGranted .control (passTurn s) = true) (hheld : s.reports.held = r :: held)
    (hbase : s.reports.base = some base) : exec .reportWrite s = .next (settle (place
      [⟨.write, base + s.reports.producer * 32, 4, (reportBytes s.transit.joined r).map fun b => ⟨true, b⟩, .report⟩]
      { setTurn .loader (passTurn s) with reports := { s.reports with held := held, writing := some r } })) := by
  have hreports : (setTurn .loader (passTurn s)).reports = s.reports := by simp
  have hjoined : (setTurn .loader (passTurn s)).transit.joined = s.transit.joined := by simp
  rw [exec_reportWrite_granted hgrant, writeReport_eq (hreports ▸ hheld) (hreports ▸ hbase), hreports, hjoined]

end

/-- Settles O45: requests by the lemmas on `request` and `roomAsked`, the turn by those on `passTurn`, grants by
`reportWrite_places` and the lemmas beside it; a report's bytes are the fields of `recordFields`, and each kind's detail is
a layout of its fields. -/
theorem grantedReportAndLoaderWrites : Obligations.GrantedReportAndLoaderWrites := by
  refine ⟨fun s => ⟨fun hgrant r held base => reportWrite_places hgrant, exec_reportWrite_waits,
      fun hgrant l hloader => ?_, exec_loaderRoomGrant_waits⟩,
    fun t s => ⟨fun hmisformed => ?_, roomAsked_slotDirWrite, roomAsked_refusedWrite, roomAsked_one⟩,
    fun n s => ⟨fun t later => request_upstream, request_upstream_nil, rfl, rfl, request_control s, request_loader⟩,
    fun q s => ⟨rfl, rfl, passTurn_reset, fun k => passTurn_first, passTurn_none, isGranted_iff⟩,
    fun index r => ⟨reportBytes_length index r, reportBytes_code index r, reportBytes_severity index r,
      reportBytes_mailbox index r, fieldOf_reportBytes (i := 3) rfl, fun n => reportBytes_slot index,
      reportBytes_slot_absent index, reportBytes_shelf index r, fun tag => reportBytes_tag index,
      reportBytes_tag_absent index, (fieldOf_reportBytes (i := 9) rfl).trans (flag_mod _),
      fieldOf_reportBytes (i := 10) rfl, fieldOf_reportBytes (i := 11) rfl, fieldOf_reportBytes (i := 12) rfl,
      fieldOf_reportBytes (i := 13) rfl, reportBytes_drop index r⟩,
    fun a b c low => ?_, rfl, rfl, rfl, rfl, rfl, rfl, rfl, rfl, rfl, rfl, rfl, rfl, rfl, rfl, rfl, rfl, rfl, rfl, rfl⟩
  · exact ⟨fun g gs => loaderRoomGrant_writes hgrant hloader, loaderRoomGrant_reads hgrant hloader⟩
  · obtain ⟨fault, hfault⟩ := Option.ne_none_iff_exists'.mp hmisformed
    exact roomAsked_misformed hfault s
  · have hlow := detail8_yesNo low
    exact ⟨.of_layout rfl rfl rfl, fun x => .of_layout rfl rfl rfl, .of_layout rfl rfl rfl, .of_layout rfl rfl rfl,
      .of_layout rfl rfl rfl, .of_layout rfl rfl rfl, fun x => .of_layout rfl rfl rfl, .of_layout rfl rfl rfl,
      fun x => .of_layout rfl rfl rfl, fun x => .of_layout rfl rfl rfl,
      fun x => .of_layout rfl rfl (hlow _), fun x => .of_layout rfl rfl (hlow _),
      .of_layout rfl rfl (hlow _), .of_layout rfl rfl rfl, .of_layout rfl rfl rfl,
      .of_layout rfl rfl (hlow _), .of_layout rfl rfl (hlow _),
      fun x => .of_layout rfl rfl rfl, fun x => .of_layout rfl rfl rfl, fun x => .of_layout rfl rfl rfl,
      .of_layout rfl rfl rfl, .of_layout rfl rfl rfl, .of_layout rfl rfl rfl, .of_layout rfl rfl rfl,
      mailboxNotEmpty_reads, fun x y => .of_layout rfl rfl rfl, .of_layout rfl rfl rfl,
      fun x y => .of_layout rfl rfl rfl, fun x y => .of_layout rfl rfl rfl,
      fun x => .of_layout rfl rfl (hlow _), fun x => .of_layout rfl rfl (hlow _), .of_layout rfl rfl rfl,
      fun x y => by cases x <;> exact .of_layout rfl rfl rfl, .of_layout rfl rfl rfl⟩

end Sys2Proof.Machine

namespace Sys2Proof.Machine

/-! ### A report as it is made (R190, R192, R195, R196) -/

/-- The ring's unread records, counted from in-range indexes (R194). -/
theorem unread_eq {u : ReportUnit} (hconsumer : u.consumer < 256) :
    unread u = (256 + u.producer - u.consumer) % 256 := by
  unfold unread
  omega

theorem unread_pos_iff {u : ReportUnit} (hproducer : u.producer < 256) (hconsumer : u.consumer < 256) :
    0 < unread u ↔ u.producer ≠ u.consumer := by
  rw [unread_eq hconsumer]
  omega

theorem unwritten_eq (u : ReportUnit) : unwritten u = u.held.length + (if u.writing = none then 0 else 1) := by
  unfold unwritten
  cases u.writing <;> rfl

theorem attn_iff {s : State} (hring : RingBounded s) :
    attn s = true ↔ s.reports.latch ≠ none ∨ s.reports.producer ≠ s.reports.consumer := by
  obtain ⟨hproducer, hconsumer, -⟩ := hring
  rw [attn, Bool.or_eq_true, decide_eq_true_eq, Option.isSome_iff_ne_none, unread_pos_iff hproducer hconsumer]

/-- The latch after a report has passed it (R195). -/
theorem fillLatch_eq (r : Report) (u : ReportUnit) : fillLatch r u = { u with
    latch := if 0x20 < reportCode r.body ∧ u.latch = none then some ⟨r.body, r.mailbox, r.slot, r.shelf⟩
      else u.latch } := by
  unfold fillLatch
  simp only [isError, Bool.and_eq_true, decide_eq_true_eq, Option.isNone_iff_eq_none]
  split <;> rfl

theorem joinHeld_eq (r : Report) (u : ReportUnit) : joinHeld r u = { u with
    held := if unread u + unwritten u < 255 then u.held ++ [r] else u.held
    dropped := if unread u + unwritten u < 255 then u.dropped else true } := by
  unfold joinHeld Config.reportPlaces
  split <;> rfl

/-- The reports after one is made: the latch takes no place of the ring, so the held list is judged as it stood (R192,
R195). -/
theorem joinHeld_fillLatch_eq (r : Report) (u : ReportUnit) : joinHeld r (fillLatch r u) = { u with
    held := if unread u + unwritten u < 255 then u.held ++ [r] else u.held
    dropped := if unread u + unwritten u < 255 then u.dropped else true
    latch := if 0x20 < reportCode r.body ∧ u.latch = none then some ⟨r.body, r.mailbox, r.slot, r.shelf⟩
      else u.latch } := by
  rw [fillLatch_eq, joinHeld_eq]
  rfl

theorem isLoadFailed_iff {body : ReportBody} : isLoadFailed body = true ↔ ∃ cause, body = .loadFailed cause := by
  cases body <;> simp [isLoadFailed]

/-- The part states in which a report is made (R190, R193). -/
theorem reportable_iff {p : PartState} {body : ReportBody} : reportable p body = true ↔
    p = .running ∨ p = .loading ∨ (p = .failed ∧ ∃ cause, body = .loadFailed cause) := by
  rw [← isLoadFailed_iff]
  cases p <;> simp [reportable]

section
variable {body : ReportBody} {mailbox slot shelf : Option Nat} {tag : Option (BitVec 32)} {s : State}

theorem makeReport_made (h : reportable s.part body = true) : makeReport body mailbox slot shelf tag s = { s with
    reports := joinHeld (reportNow body mailbox slot shelf tag s)
      (fillLatch (reportNow body mailbox slot shelf tag s) s.reports) } := if_pos h

theorem makeReport_unmade (h : reportable s.part body = false) : makeReport body mailbox slot shelf tag s = s :=
  if_neg (Bool.eq_false_iff.mp h)

end

/-- Settles O44: whether a report is made is `reportable_iff`, what it leaves `joinHeld_fillLatch_eq`, and ATTN is
`attn_iff`. -/
theorem reportIsHeldLatchedOrDropped : Obligations.ReportIsHeldLatchedOrDropped := by
  refine ⟨fun u _ hconsumer => ⟨unread_eq hconsumer, unwritten_eq u⟩, fun s => attn_iff, fun body => ?_,
    fun body mailbox slot shelf tag s r hr => ⟨fun hreset => ?_, fun hfailed hother => ?_, fun hmade => ?_⟩⟩
  · cases body <;> simp [reportCode]
  · exact makeReport_unmade (by rw [hreset]; rfl)
  · refine makeReport_unmade ?_
    rw [hfailed, ← Bool.not_eq_true]
    exact fun hreported => have ⟨cause, hcause⟩ := isLoadFailed_iff.mp hreported; hother cause hcause
  · have hnow : reportNow body mailbox slot shelf tag s = r := hr.symm
    have hreport : makeReport body mailbox slot shelf tag s
        = { s with reports := joinHeld r (fillLatch r s.reports) } := by
      rw [makeReport_made (reportable_iff.mpr hmade), hnow]
    simp only [hreport, joinHeld_fillLatch_eq]
    refine ⟨trivial, trivial, trivial, trivial, trivial, fun hroom => ⟨if_pos hroom, if_pos hroom⟩,
      fun hfull => ⟨if_neg (Nat.not_lt.mpr hfull), if_neg (Nat.not_lt.mpr hfull)⟩, ?_⟩
    rw [hr]

end Sys2Proof.Machine

namespace Sys2Proof.Machine

/-! ### A Control Area write taken whole or refused whole (R182, R186) -/

/-- The rows of a write that names no command (section 9.1). -/
def areaWriteRows (w : HostWrite) : List Instr :=
  [.controlAreaWrite w, .classEntryWrite w, .calibrationWrite w, .breakListWrite w, .scheduleWrite w,
    .broadcastEntryWrite w, .shelfEntryWrite w, .reportConsumerWrite w, .errorLatchClear w]

theorem areaWriteRows_subset (straps : BitVec 4) (w : HostWrite) : areaWriteRows w ⊆ hostRows straps (.write w) := by
  simp [areaWriteRows, hostRows]

theorem controlBase_accepted (t : HostTxn) (s : State) : controlBase (accepted t s) = controlBase s := by
  simp [controlBase]

section
variable {offset : Nat} {w : HostWrite} {s : State}

theorem writeArea_passes
    (hpass : failedRecords s (lineLanes w) (touchedRecords offset w.words.toNat) = []) :
    writeArea offset w s = acceptArea offset (lineLanes w) (touchedRecords offset w.words.toNat) w s := by
  simp only [writeArea, hpass]

theorem writeArea_fails
    (hfail : failedRecords s (lineLanes w) (touchedRecords offset w.words.toNat) ≠ []) :
    writeArea offset w s = joinOrder (some ⟨.refused, []⟩) (reportRefusals (controlBase s)
      (failedRecords s (lineLanes w) (touchedRecords offset w.words.toNat)) s) := by
  unfold writeArea
  dsimp only
  split
  · next hpass => exact absurd hpass hfail
  · rfl

/-- An accepted write that carries no command only forwards, clears the latch and takes its records (R182, R186). -/
theorem acceptArea_uncommanded {records : List AreaRecord} (hnone : writtenCommand (lineLanes w) records = none) :
    acceptArea offset (lineLanes w) records w s = takeRecords (lineLanes w) records
      (if clearsLatch offset (lineLanes w) then clearLatch (areaForwarded offset w s)
      else areaForwarded offset w s) := by
  have hrestart : writesRestart (lineLanes w) records = false :=
    writesRestart_eq_false fun c hc => by cases hnone.symm.trans hc
  rw [acceptArea, hrestart]
  rfl

/-- A Control Area write taken at once is judged by its records, whatever row it arrives under (R182, log 1). -/
theorem exec_areaWrite {c : Instr} (hready : PortReady (.write w) s) (harea : FallsInArea offset (.write w) s)
    (hrow : c ∈ areaWriteRows w) : exec c s = .next (calm (writeArea offset w (accepted (.write w) s))) := by
  rw [exec_ready (areaWriteRows_subset _ w hrow) hready, takeTxn_areaWrite harea.accepted]

end

/-- The write that empties the error latch (R186, section 11.4). -/
theorem clearsLatch_iff {offset : Nat} {line : List Lane} : clearsLatch offset line = true ↔
    offset / 128 = 2 ∧ (∀ l ∈ (line.drop 16).take 2, l.enabled = true) ∧ fieldOf (laneData line) 16 2 = 0 := by
  simp only [clearsLatch, Bool.and_eq_true, beq_iff_eq, List.all_eq_true, and_assoc]

theorem failedRecords_cons (s : State) (line : List Lane) (a : AreaRecord) (records : List AreaRecord) :
    failedRecords s line (a :: records) = match judgeRecord s line a with
      | some check => (a, check) :: failedRecords s line records
      | none => failedRecords s line records := by
  rw [failedRecords, List.filterMap_cons]
  cases judgeRecord s line a <;> rfl

/-- Settles O33: a write is accepted or refused by `writeArea_passes` and `writeArea_fails`, and each record is judged,
taken or reported before those behind it. -/
theorem areaWriteIsAcceptedOrRefusedWhole : Obligations.AreaWriteIsAcceptedOrRefusedWhole := by
  refine ⟨fun offset w s hready harea hpass hnone c hrow => ?_, fun offset w s hready harea hfail c hrow => ?_,
    fun offset line => clearsLatch_iff, fun offset line => rfl,
    fun s line records a => ⟨rfl, failedRecords_cons s line a records⟩,
    fun s line a records area check rest => ⟨rfl, rfl, rfl, ?_⟩⟩
  · rw [exec_areaWrite hready harea hrow, writeArea_passes ((failedRecords_accepted _ s _ _).trans hpass),
      acceptArea_uncommanded hnone]
    rfl
  · rw [exec_areaWrite hready harea hrow, writeArea_fails (by rwa [failedRecords_accepted]), controlBase_accepted,
      failedRecords_accepted]
  · cases a <;> rfl

/-! ### A Control Area read (R181, R186) -/

theorem takeTxn_areaReadFailed {offset : Nat} {r : HostRead} {s : State} (hpart : s.part = .failed)
    (hform : txnFault (.read r) = none) (harea : areaOffset s (txnAddr (.read r)) = some offset) :
    takeTxn (.read r) s = readArea offset r s := by
  rw [takeTxn_failed hpart hform]
  simp only [takeFailed, harea, takeAreaFailed]

theorem overlayPart_getElem? (r : HostRead) (line : List (Option Byte)) (k : Nat) : (overlayPart r line)[k]?
    = if k < 8 * r.words.toNat then (line.drop (r.addr.toNat % 128))[k]? else none :=
  List.getElem?_take

/-- The code of the error latch, 0000h while it is empty (section 11.4). -/
def latchCode : Option LatchedError → Nat
  | none => 0
  | some e => reportCode e.body

/-- The latch's detail bytes, of an empty latch free values (log 11). -/
def latchDetail (index : Nat) : Option LatchedError → List Byte
  | none => leBytes 8 (unmeantNat .latchDetail index 8)
  | some e => reportDetail e.body

/-- The latch's fields before its detail (section 11.4). An empty latch names no mailbox, slot or shelf (log 32). -/
def latchFields (index : Nat) (e : Option LatchedError) : List (Nat × Nat × Nat) :=
  [(16, 2, latchCode e), (18, 2, (e.bind (·.mailbox)).getD 0xffff),
    (20, 2, optionalNat (e.bind (·.slot)) .latchSlot index 2), (22, 1, if (e.bind (·.slot)).isSome then 1 else 0),
    (23, 1, (e.bind (·.shelf)).getD 0xff)]

/-- The fields of the status record before the latch's detail (section 11.4). -/
def statusFields (index : Nat) (s : State) : List (Nat × Nat × Nat) :=
  [(0, 1, partCode s.part), (1, 1, if s.reports.dropped then 1 else 0), (2, 2, s.reports.producer),
    (4, 2, s.calendar.day), (6, 2, s.calendar.minute), (8, 1, s.calendar.second),
    (9, 1, if s.calendar.isSet then 1 else 0), (10, 1, if s.sweep.active then 1 else 0), (11, 1, 0),
    (12, 4, s.sweep.cursor)] ++ latchFields index s.reports.latch

/-- The fields of the status record behind the latch's detail, and its end at 40h (section 11.4). -/
def countFields (s : State) : List (Nat × Nat × Nat) :=
  [(32, 2, s.counts.tables), (34, 2, s.counts.boxes), (36, 4, s.counts.slots), (64, 0, 0)]

theorem latchBytes_eq (index : Nat) (e : Option LatchedError) :
    latchBytes index e = layout 16 (latchFields index e) ++ latchDetail index e := by
  cases e with
  | none => rfl
  | some e =>
    simp only [latchBytes, yesNo_eq]
    rfl

theorem statusBytes_eq (index : Nat) (s : State) : statusBytes index s =
    layout 0 (statusFields index s) ++ (latchDetail index s.reports.latch ++ layout 32 (countFields s)) := by
  simp only [statusBytes, yesNo_eq, latchBytes_eq, List.append_assoc]
  rfl

theorem latchDetail_length (index : Nat) (e : Option LatchedError) : (latchDetail index e).length = 8 := by
  cases e with
  | none => exact leBytes_length 8 _
  | some e => exact reportDetail_length e.body

section
variable {index i offset size value : Nat} {s : State}

/-- Each field before the latch's detail reads as its value, by its number in `statusFields`. -/
theorem fieldOf_statusBytes (hfield : (statusFields index s)[i]? = some (offset, size, value)) :
    fieldOf (statusBytes index s) offset size = value % 256 ^ size := by
  rw [statusBytes_eq]
  exact (fieldOf_layout (start := 0) rfl (List.mem_of_getElem? hfield) _).2

theorem statusBytes_drop_detail (index : Nat) (s : State) : (statusBytes index s).drop 24
    = latchDetail index s.reports.latch ++ layout 32 (countFields s) := by
  rw [statusBytes_eq]
  exact List.drop_left' rfl

theorem statusBytes_drop_counts (index : Nat) (s : State) :
    (statusBytes index s).drop 32 = layout 32 (countFields s) := by
  have hdrop : (statusBytes index s).drop 32 = ((statusBytes index s).drop 24).drop 8 := by rw [List.drop_drop]
  rw [hdrop, statusBytes_drop_detail, List.drop_left' (latchDetail_length index _)]

theorem fieldOf_statusBytes_counts (hoffset : 32 ≤ offset) :
    fieldOf (statusBytes index s) offset size = fieldOf (layout 32 (countFields s)) (offset - 32) size := by
  rw [← statusBytes_drop_counts index s, fieldOf, fieldOf, List.drop_drop, Nat.add_sub_cancel' hoffset]

/-- Each set-aside count reads as its value, by its number in `countFields`. -/
theorem fieldOf_statusCount (index : Nat) (hoffset : 32 ≤ offset)
    (hfield : (countFields s)[i]? = some (offset, size, value)) :
    fieldOf (statusBytes index s) offset size = value % 256 ^ size := by
  have hread := (fieldOf_layout (start := 32) rfl (List.mem_of_getElem? hfield) []).2
  rwa [List.append_nil, ← fieldOf_statusBytes_counts hoffset] at hread

end

theorem statusBytes_length (index : Nat) (s : State) : (statusBytes index s).length = 64 := by
  rw [statusBytes_eq, List.length_append, List.length_append, latchDetail_length]
  rfl

/-- Bytes 28h to 3Fh of the status record are zero (section 11.4). -/
theorem statusBytes_tail (index : Nat) (s : State) {k : Nat} (hlow : 40 ≤ k) (hhigh : k < 64) :
    byteOf (statusBytes index s) k = 0 := by
  rw [byteOf, fieldOf_statusBytes_counts (by omega)]
  refine byteOf_layout_gap rfl (by omega) fun f hf => ?_
  simp only [countFields, List.mem_cons, List.not_mem_nil, or_false] at hf
  rcases hf with rfl | rfl | rfl | rfl <;> simp only <;> omega

section
variable (index : Nat) {s : State}

/-- What the status record shows of an empty latch (log 32). -/
theorem statusBytes_latchEmpty (h : s.reports.latch = none) : fieldOf (statusBytes index s) 18 2 = 0xffff
    ∧ byteOf (statusBytes index s) 22 = 0 ∧ byteOf (statusBytes index s) 23 = 0xff := by
  rw [byteOf, byteOf, fieldOf_statusBytes (i := 11) rfl, fieldOf_statusBytes (i := 13) rfl,
    fieldOf_statusBytes (i := 14) rfl, h]
  exact ⟨rfl, rfl, rfl⟩

theorem statusBytes_latchCode : fieldOf (statusBytes index s) 16 2
    = match s.reports.latch with | none => 0 | some e => reportCode e.body := by
  rw [fieldOf_statusBytes (i := 10) rfl]
  cases s.reports.latch with
  | none => rfl
  | some e => exact Nat.mod_eq_of_lt (Nat.lt_trans (reportCode_lt e.body) (by decide))

variable {e : LatchedError} (h : s.reports.latch = some e)
include h

theorem statusBytes_latchMailbox : fieldOf (statusBytes index s) 18 2
    = match e.mailbox with | some m => m % 65536 | none => 0xffff := by
  rw [fieldOf_statusBytes (i := 11) rfl, h, Option.bind_some]
  cases e.mailbox <;> rfl

theorem statusBytes_latchSlot {n : Nat} (hslot : e.slot = some n) :
    fieldOf (statusBytes index s) 20 2 = n % 65536 ∧ byteOf (statusBytes index s) 22 = 1 := by
  rw [byteOf, fieldOf_statusBytes (i := 12) rfl, fieldOf_statusBytes (i := 13) rfl, h, Option.bind_some, hslot]
  exact ⟨rfl, rfl⟩

theorem statusBytes_latchSlot_absent (hslot : e.slot = none) : byteOf (statusBytes index s) 22 = 0 := by
  rw [byteOf, fieldOf_statusBytes (i := 13) rfl, h, Option.bind_some, hslot]
  rfl

theorem statusBytes_latchShelf : byteOf (statusBytes index s) 23
    = match e.shelf with | some n => n % 256 | none => 0xff := by
  rw [byteOf, fieldOf_statusBytes (i := 14) rfl, h, Option.bind_some]
  cases e.shelf <;> rfl

theorem statusBytes_latchDetail : ((statusBytes index s).drop 24).take 8 = reportDetail e.body := by
  rw [statusBytes_drop_detail, h]
  exact List.take_left' (reportDetail_length e.body)

end

theorem partCode_lt (p : PartState) : partCode p < 256 := by
  cases p <;> decide

/-- The part state shown is the one the part is in (section 11.4). -/
theorem statusBytes_part (index : Nat) (s : State) : byteOf (statusBytes index s) 0 = partCode s.part :=
  (fieldOf_statusBytes (i := 0) rfl).trans (Nat.mod_eq_of_lt (partCode_lt s.part))

/-- Settles O37: the read is taken by `readArea`, and the status record's fields read as `fieldOf_statusBytes` and the
lemmas on its latch and counts say. -/
theorem areaReadShowsTheStatusRecord : Obligations.AreaReadShowsTheStatusRecord := by
  refine ⟨fun offset r s hready hplace => ?_, overlayPart_getElem?, fun index s => ⟨statusBytes_length index s,
    statusBytes_part index s, fun hrunning => ?_, fun hfailed => ?_,
    (fieldOf_statusBytes (i := 1) rfl).trans (flag_mod _),
    fieldOf_statusBytes (i := 2) rfl, fieldOf_statusBytes (i := 3) rfl, fieldOf_statusBytes (i := 4) rfl,
    fieldOf_statusBytes (i := 5) rfl, (fieldOf_statusBytes (i := 6) rfl).trans (flag_mod _),
    (fieldOf_statusBytes (i := 7) rfl).trans (flag_mod _), fieldOf_statusBytes (i := 8) rfl,
    fieldOf_statusBytes (i := 9) rfl, statusBytes_latchCode index, statusBytes_latchEmpty index,
    fun e h => ⟨statusBytes_latchMailbox index h, fun n => statusBytes_latchSlot index h,
      statusBytes_latchSlot_absent index h, statusBytes_latchShelf index h, statusBytes_latchDetail index h⟩,
    fieldOf_statusCount (i := 0) index (by decide) rfl, fieldOf_statusCount (i := 1) index (by decide) rfl,
    fieldOf_statusCount (i := 2) index (by decide) rfl, fun k => statusBytes_tail index s⟩⟩
  · have htaken : takeTxn (.read r) (accepted (.read r) s) = readArea offset r (accepted (.read r) s) := by
      rcases hplace with hrunning | ⟨hfailed, hform, harea⟩
      · exact takeTxn_areaRead hrunning.accepted
      · exact takeTxn_areaReadFailed ((part_accepted _ s).trans hfailed) hform ((areaOffset_accepted _ s _).trans harea)
    have hjoined : (accepted (.read r) s).transit.joined = s.transit.joined := by simp
    have hrow : Instr.controlAreaRead r ∈ hostRows s.straps (.read r) := by simp [hostRows]
    rw [exec_ready hrow hready, htaken, readArea, areaOverlay, hjoined]
    rfl
  · rw [statusBytes_part, hrunning]
    rfl
  · rw [statusBytes_part, hfailed]
    rfl

/-! ### RESTART (R185, R187, R191) -/

/-- The command of a write and the record behind it take effect in this order (R182). -/
theorem takeRecords_command {offset : Nat} {w : HostWrite} {c : Command}
    (h : writtenCommand (lineLanes w) (touchedRecords offset w.words.toNat) = some c) (u : State) :
    takeRecords (lineLanes w) (touchedRecords offset w.words.toNat) u = afterCommand offset w (takeCommand c u) := by
  obtain ⟨htouched, hread⟩ := writtenCommand_eq_some h
  obtain ⟨-, hrecords⟩ := touchedRecords_of_command htouched
  rw [hrecords, takeRecords, takeRecord, hread]
  unfold afterCommand
  split <;> rfl

theorem writesRestart_of_restart {line : List Lane} {records : List AreaRecord} {c : Command}
    (h : writtenCommand line records = some c) (hcode : c.code = 1) : writesRestart line records = true := by
  simp [writesRestart, h, hcode]

theorem clearsLatch_of_command {offset : Nat} {w : HostWrite} {c : Command} {line : List Lane}
    (h : writtenCommand line (touchedRecords offset w.words.toNat) = some c) : clearsLatch offset line = false := by
  obtain ⟨htouched, -⟩ := writtenCommand_eq_some h
  obtain ⟨hline, -⟩ := touchedRecords_of_command htouched
  simp [clearsLatch, hline]

theorem takeCommand_restart {c : Command} (hcode : c.code = 1) (u : State) : takeCommand c u =
    { u with control := { u.control with command := some c }, restartTag := some c.tag } := by
  simp only [takeCommand, hcode]

/-- RESTART's tag is noted without touching what the record behind it changes (R191). -/
theorem afterCommand_restartTag (offset : Nat) (w : HostWrite) (tag : Option (BitVec 32)) (u : State) :
    afterCommand offset w { u with restartTag := tag } = { afterCommand offset w u with restartTag := tag } := by
  unfold afterCommand
  split <;> rfl

/-- A RESTART taken while RUNNING enters LOADING behind the record after it, its tag noted (R182, R191). -/
theorem hostArrives_restart {offset : Nat} {c : Command} {w : HostWrite} {s : State}
    (h : CommandWritten offset c w s) (hcode : c.code = 1) : hostArrives (.write w) s = calm (enterLoading
      { afterCommand offset w (commandTaken offset c w s) with restartTag := some c.tag }) := by
  obtain ⟨hready, harea, hpass, hwritten⟩ := h
  rw [hostArrives_ready hready, takeTxn_areaWrite harea.accepted,
    writeArea_passes ((failedRecords_accepted _ _ _ _).trans hpass), acceptArea, clearsLatch_of_command hwritten,
    writesRestart_of_restart hwritten hcode, takeRecords_command hwritten, takeCommand_restart hcode,
    ← afterCommand_restartTag]
  rfl

/-- A RESTART taken in FAILED enters LOADING behind its write, with no tag noted (R181, R191). -/
theorem hostArrives_restart_failed {offset : Nat} {c : Command} {w : HostWrite} {s : State}
    (hready : PortReady (.write w) s) (hpart : s.part = .failed) (hform : txnFault (.write w) = none)
    (harea : areaOffset s (txnAddr (.write w)) = some offset)
    (hwritten : writtenCommand (lineLanes w) (touchedRecords offset w.words.toNat) = some c) (hcode : c.code = 1) :
    hostArrives (.write w) s = calm (enterLoading { joinOrder none (place
      [⟨.write, w.addr.toNat, w.words.toNat, writeLanes w, .host false []⟩] (accepted (.write w) s))
      with restartTag := none }) := by
  rw [hostArrives_ready hready, takeTxn_failed ((part_accepted _ s).trans hpart) hform,
    takeFailed_write ((areaOffset_accepted _ s _).trans harea), writeAreaFailed, writesRestart_of_restart hwritten hcode]
  rfl

/-- A RESTART's transaction, until LOADING is entered, leaves the calendar, the cadence, the pins and the waiting
commands. -/
def KeepsClockAndPins (s u : State) : Prop :=
  u.calendar = s.calendar ∧ u.lamps.phase = s.lamps.phase ∧ u.lamps.cycles = s.lamps.cycles ∧ u.prun = s.prun
    ∧ u.straps = s.straps ∧ u.now = s.now ∧ u.pending = s.pending

theorem KeepsClockAndPins.accepted (t : HostTxn) (s : State) : KeepsClockAndPins s (accepted t s) := by
  obtain ⟨-, -, hphase, hcycles, -⟩ := RestLeaves.accepted t s
  exact ⟨by simp, hphase, hcycles, by simp, by simp, by simp, by simp⟩

theorem KeepsClockAndPins.joinOrder (response : Option Response) (entries : List Entry) {s u : State}
    (h : KeepsClockAndPins s u) : KeepsClockAndPins s (joinOrder response (place entries u)) := h

theorem KeepsClockAndPins.afterCommand (offset : Nat) (c : Command) (w : HostWrite) (s : State) :
    KeepsClockAndPins s (afterCommand offset w (commandTaken offset c w s)) := by
  have hforwarded : KeepsClockAndPins s (areaForwarded offset w (Machine.accepted (.write w) s)) :=
    (KeepsClockAndPins.accepted (.write w) s).joinOrder none _
  have htaken : KeepsClockAndPins s (commandTaken offset c w s) := hforwarded
  unfold Machine.afterCommand
  split
  · exact htaken
  · exact htaken

/-- What LOADING begins with, entered from a state: everything but the reports, the clock, the pins and the rest of the
Transit Unit is empty or 0 (R187, R189, R191). -/
theorem enterLoading_begins {s v : State} (h : KeepsClockAndPins s v) (tag : Option (BitVec 32)) :
    let u := enterLoading { v with restartTag := tag }
    (u.part = .loading ∧ ShadowsEmpty u
      ∧ u.transit = { v.transit with regions := [], ctlSel := s.straps, turn := .upstream } ∧ u.counts = ⟨0, 0, 0⟩
      ∧ u.calendar = s.calendar ∧ u.lamps.phase = s.lamps.phase ∧ u.lamps.cycles = s.lamps.cycles
      ∧ u.reports = { v.reports with held := [] } ∧ u.loader = some ⟨0, 0, [], 0, []⟩ ∧ u.failing = none
      ∧ u.prun = s.prun ∧ u.straps = s.straps ∧ u.now = s.now ∧ u.pending = s.pending) ∧ u.restartTag = tag := by
  obtain ⟨hcalendar, hphase, hcycles, hprun, hstraps, hnow, hpending⟩ := h
  refine ⟨⟨rfl, enterLoading_empty _, ?_, rfl, hcalendar, hphase, hcycles, rfl, rfl, rfl, hprun, hstraps, hnow,
    hpending⟩, rfl⟩
  rw [← hstraps]
  rfl

/-- Settles O42: a RESTART enters LOADING by `hostArrives_restart` or `hostArrives_restart_failed`, and
`enterLoading_begins` says what LOADING begins with. -/
theorem restartEntersLoading : Obligations.RestartEntersLoading := by
  intro offset c w straps s r hr entered
  have hexec : exec (.restart w straps) s = .next (hostArrives (.write w) r) := by
    rw [hr]
    rfl
  have hbegins : ∀ v tag, KeepsClockAndPins r v → entered v (enterLoading { v with restartTag := tag })
      ∧ (enterLoading { v with restartTag := tag }).restartTag = tag := by
    subst hr
    exact fun v tag h => enterLoading_begins h tag
  refine ⟨fun h hcode => ⟨_, _, ?_, rfl, hbegins _ _ (.afterCommand offset c w r)⟩,
    fun hready hpart hform harea hwritten hcode => ⟨_, _, ?_, rfl,
      hbegins _ _ ((KeepsClockAndPins.accepted (.write w) r).joinOrder _ _)⟩⟩
  · rw [hexec, hostArrives_restart h hcode]
  · subst hr
    rw [hexec, hostArrives_restart_failed hready hpart hform harea hwritten hcode]

end Sys2Proof.Machine

namespace Sys2Proof.Machine

/-! ### The directories under their three writes (sections 1.1, 2.1 and 2.4) -/

namespace DirectoriesCanonical

variable {s u : State}

/-- Only the three directories count. -/
theorem congr (h : DirectoriesCanonical s) (hslots : u.slots = s.slots) (hboxes : u.boxes = s.boxes)
    (hmap : u.lampMap = s.lampMap) : DirectoriesCanonical u := by
  unfold DirectoriesCanonical
  rw [hslots, hboxes, hmap]
  exact h

theorem of_empty (hslots : u.slots = []) (hboxes : u.boxes = []) (hmap : u.lampMap = []) : DirectoriesCanonical u := by
  unfold DirectoriesCanonical
  rw [hslots, hboxes, hmap]
  exact ⟨rfl, rfl, rfl⟩

theorem putSlot (h : DirectoriesCanonical s) (n : Nat) (r : SlotRec) : DirectoriesCanonical (putSlot n r s) := by
  obtain ⟨hslots, hboxes, hmap⟩ := h
  exact ⟨sparseWf_set hslots n r, hboxes, hmap⟩

theorem putBox (h : DirectoriesCanonical s) (m : Nat) (b : MailboxRec) : DirectoriesCanonical (putBox m b s) := by
  obtain ⟨hslots, hboxes, hmap⟩ := h
  exact ⟨hslots, sparseWf_set hboxes m b, hmap⟩

theorem putHolder (h : DirectoriesCanonical s) (p : Nat) (m : Option Nat) :
    DirectoriesCanonical (putHolder p m s) := by
  obtain ⟨hslots, hboxes, hmap⟩ := h
  exact ⟨hslots, hboxes, sparseWf_set hmap p m⟩

theorem forEach {f : Nat → State → State} (hf : ∀ n u, DirectoriesCanonical u → DirectoriesCanonical (f n u))
    (l : List Nat) (h : DirectoriesCanonical s) : DirectoriesCanonical (forEach f l s) := by
  induction l generalizing s with
  | nil => exact h
  | cons n l ih => exact ih (hf n s h)

/-- A change that is made under a condition. -/
theorem changedIf {c : Prop} [Decidable c] (h : DirectoriesCanonical s)
    (hchange : DirectoriesCanonical s → DirectoriesCanonical u) : DirectoriesCanonical (if c then u else s) := by
  split
  · exact hchange h
  · exact h

/-- A change that is made unless a condition holds. -/
theorem changedUnless {c : Prop} [Decidable c] (h : DirectoriesCanonical s)
    (hchange : DirectoriesCanonical s → DirectoriesCanonical u) : DirectoriesCanonical (if c then s else u) := by
  split
  · exact h
  · exact hchange h

/-! ### One mailbox, one slot (R5, R35, R40, R47) -/

theorem mapLamp (h : DirectoriesCanonical s) (p : Nat) (mode : Option LampMode) :
    DirectoriesCanonical (mapLamp p mode s) := h

theorem makeReport (h : DirectoriesCanonical s) (body : ReportBody) (m n e : Option Nat) (tag : Option (BitVec 32)) :
    DirectoriesCanonical (makeReport body m n e tag s) := h.congr (by simp) (by simp) (by simp)

theorem settleBox (h : DirectoriesCanonical s) (m : Nat) (b : MailboxRec) :
    DirectoriesCanonical (settleBox m b s) := by
  have hput := h.putBox m (derived s b)
  unfold Machine.settleBox
  split
  · exact hput
  · split
    · exact hput
    · exact hput.mapLamp _ _

theorem updateBox (h : DirectoriesCanonical s) (m : Nat) (f : MailboxRec → MailboxRec) :
    DirectoriesCanonical (updateBox m f s) := h.settleBox m _

theorem editBox (h : DirectoriesCanonical s) (m : Nat) (f : MailboxRec → MailboxRec) :
    DirectoriesCanonical (editBox m f s) := h.putBox m _

theorem changeSlot (h : DirectoriesCanonical s) (n : Nat) (r : SlotRec) :
    DirectoriesCanonical (changeSlot n r s) := by
  have hput := h.putSlot n r
  unfold Machine.changeSlot
  split
  · exact hput
  · exact hput.settleBox _ _

theorem freePosition (h : DirectoriesCanonical s) (p : Option Nat) : DirectoriesCanonical (freePosition p s) := by
  cases p with
  | none => exact h
  | some p => exact (h.putHolder p none).mapLamp p none

theorem takePosition (h : DirectoriesCanonical s) (m : Nat) (p : Option Nat) :
    DirectoriesCanonical (takePosition m p s) := by
  cases p with
  | none => exact h
  | some p => exact (h.putHolder p (some m)).mapLamp p _

theorem changeLamp (h : DirectoriesCanonical s) (m v : Nat) : DirectoriesCanonical (changeLamp m v s) :=
  ((h.freePosition _).putBox m _).takePosition m _

/-! ### Broadcasts (R38, R74, R75, R78 to R81) -/

theorem putBroadcast (h : DirectoriesCanonical s) (n : Nat) (b : Broadcast) :
    DirectoriesCanonical (putBroadcast n b s) := h

theorem endBroadcast (h : DirectoriesCanonical s) (n : Nat) (reason : EndReason) (mailbox : Option Nat) :
    DirectoriesCanonical (endBroadcast n reason mailbox s) := by
  have hcounted := h.forEach (fun m u hu => hu.updateBox m (uncountBroadcast (broadcastAt s n).urgent))
    (broadcastAt s n).pending
  exact (hcounted.putBroadcast n _).makeReport _ _ _ _ _

theorem leaveBroadcast (h : DirectoriesCanonical s) (n m : Nat) : DirectoriesCanonical (leaveBroadcast n m s) := by
  unfold Machine.leaveBroadcast
  dsimp only
  split
  · have hleft := (h.putBroadcast n
      { broadcastAt s n with pending := (broadcastAt s n).pending.filter (· != m) }).updateBox m
        (uncountBroadcast (broadcastAt s n).urgent)
    split
    · exact hleft.endBroadcast _ _ _
    · exact hleft
  · exact h

theorem removeMember (h : DirectoriesCanonical s) (m : Nat) : DirectoriesCanonical (removeMember m s) :=
  (h.forEach (fun n _ hu => hu.leaveBroadcast n m) _).updateBox m _

theorem postBroadcast (h : DirectoriesCanonical s) (n : Nat) (members : List Nat) :
    DirectoriesCanonical (postBroadcast n members s) := by
  have hposted := (h.putBroadcast n { broadcastAt s n with live := true, pending := members }).forEach
    (fun m _ hu => hu.updateBox m (countBroadcast (broadcastAt s n).urgent)) members
  unfold Machine.postBroadcast
  dsimp only
  split
  · exact hposted.endBroadcast _ _ _
  · exact hposted

theorem commandDone (h : DirectoriesCanonical s) (c : Command) (outcome : CommandOutcome) (members : Nat) :
    DirectoriesCanonical (commandDone c outcome members s) := h.makeReport _ _ _ _ _

theorem commandPost (h : DirectoriesCanonical s) (c : Command) (number : Nat) :
    DirectoriesCanonical (commandPost c number s) := by
  unfold Machine.commandPost
  split
  · exact h.commandDone _ _ _
  · exact (h.postBroadcast _ _).commandDone _ _ _

theorem commandWithdraw (h : DirectoriesCanonical s) (c : Command) (number : Nat) :
    DirectoriesCanonical (commandWithdraw c number s) := by
  unfold Machine.commandWithdraw
  split
  · exact h.commandDone _ _ _
  · split
    · exact (h.endBroadcast _ _ _).commandDone _ _ _
    · exact h.commandDone _ _ _

theorem endDayClaim (h : DirectoriesCanonical s) (day : Nat) : DirectoriesCanonical (endDayClaim day s) :=
  h.forEach (fun n _ hu => hu.changedIf fun hu => hu.endBroadcast n .endDay none) _

/-! ### A slot record judged (R5 to R17) -/

section
variable {j : SlotWork}

theorem judgeIdentity (h : DirectoriesCanonical j.state) (n offset size held : Nat) (inRange : Nat → Bool)
    (rangeCause stateCause : ReportBody) (put : Nat → SlotRec → SlotRec) :
    DirectoriesCanonical (judgeIdentity n offset size held inRange rangeCause stateCause put j).state := by
  unfold Machine.judgeIdentity
  dsimp only
  split
  · exact h
  · split
    · exact h
    · split
      · exact h
      · exact h.changeSlot n _

theorem judgeOwner (h : DirectoriesCanonical j.state) (n : Nat) : DirectoriesCanonical (judgeOwner n j).state :=
  h.judgeIdentity n _ _ _ _ _ _ _

theorem judgeSource (h : DirectoriesCanonical j.state) (n : Nat) : DirectoriesCanonical (judgeSource n j).state :=
  h.judgeIdentity n _ _ _ _ _ _ _

theorem judgeFirstBlock (h : DirectoriesCanonical j.state) (n : Nat) :
    DirectoriesCanonical (judgeFirstBlock n j).state := h.judgeIdentity n _ _ _ _ _ _ _

theorem judgeUrgent (h : DirectoriesCanonical j.state) (n : Nat) : DirectoriesCanonical (judgeUrgent n j).state := by
  unfold Machine.judgeUrgent
  dsimp only
  split
  · exact h
  · split
    · exact h
    · split
      · exact h
      · exact h.changeSlot n _

theorem putContext (h : DirectoriesCanonical s) (k : Nat) (c : Option Context) :
    DirectoriesCanonical (putContext k c s) := h

theorem releaseSlot (h : DirectoriesCanonical s) (r : SlotRec) : DirectoriesCanonical (releaseSlot r s) :=
  h.congr (by simp) (by simp) (by simp)

theorem slotClaim (h : DirectoriesCanonical j.state) (n : Nat) : DirectoriesCanonical (slotClaim n j).state := by
  unfold Machine.slotClaim
  dsimp only
  split
  · exact h
  · exact (h.putContext _ _).changeSlot n _

theorem slotCommit (h : DirectoriesCanonical j.state) (n : Nat) : DirectoriesCanonical (slotCommit n j).state := by
  unfold Machine.slotCommit
  dsimp only
  split
  · exact (h.releaseSlot _).changeSlot n _
  · exact (h.releaseSlot _).changeSlot n _

theorem slotAbandon (h : DirectoriesCanonical j.state) (n : Nat) : DirectoriesCanonical (slotAbandon n j).state :=
  (h.releaseSlot _).changeSlot n _

theorem slotMove (h : DirectoriesCanonical j.state) (n : Nat) (target : SlotState) :
    DirectoriesCanonical (slotMove n target j).state := h.changeSlot n _

theorem slotDelete (h : DirectoriesCanonical j.state) (n : Nat) : DirectoriesCanonical (slotDelete n j).state := by
  unfold Machine.slotDelete
  dsimp only
  split
  · exact h.changeSlot n _
  · exact h

theorem slotRefusal (h : DirectoriesCanonical j.state) (n code : Nat) :
    DirectoriesCanonical (slotRefusal n code j).state := h.congr (by simp) (by simp) (by simp)

theorem slotTransition (h : DirectoriesCanonical j.state) (n code : Nat) :
    DirectoriesCanonical (slotTransition n code j).state := by
  unfold Machine.slotTransition
  split
  · exact h.slotClaim n
  · exact h.slotCommit n
  · exact h.slotAbandon n
  iterate 6 exact h.slotMove n _
  iterate 5 exact h.slotDelete n
  · exact h.slotRefusal n code

theorem judgeState (h : DirectoriesCanonical j.state) (n : Nat) : DirectoriesCanonical (judgeState n j).state := by
  unfold Machine.judgeState
  dsimp only
  split
  · exact h
  · exact h.slotTransition n _

end

theorem reportSlot (h : DirectoriesCanonical s) (n owner : Nat) (causes : List ReportBody) :
    DirectoriesCanonical (reportSlot n owner causes s) := h.congr (by simp) (by simp) (by simp)

theorem judgeSlot (h : DirectoriesCanonical s) (n : Nat) (lanes : List Lane) :
    DirectoriesCanonical (judgeSlot n lanes s).state := by
  have hwithheld : DirectoriesCanonical (withholdOwn ⟨s, lanes, [], false⟩).state := h
  have hjudged := ((((hwithheld.judgeOwner n).judgeSource n).judgeFirstBlock n).judgeUrgent n).judgeState n
  unfold Machine.judgeSlot
  dsimp only
  exact hjudged.reportSlot n _ _

theorem judgeSlots (h : DirectoriesCanonical s) (first : Nat) (is : List Nat) (line : List Lane) (adjusted : Bool)
    (stamps : List Nat) : DirectoriesCanonical (judgeSlots first is ⟨s, line, adjusted, stamps⟩).state := by
  induction is generalizing s line adjusted stamps with
  | nil => exact h
  | cons i is ih => exact ih (h.judgeSlot (first + i) (recordLanes line i 32)) _ _ _

theorem place (h : DirectoriesCanonical s) (entries : List Entry) : DirectoriesCanonical (place entries s) := h

theorem slotDirWrite (h : DirectoriesCanonical s) (base : Nat) (w : HostWrite) :
    DirectoriesCanonical (slotDirWrite base w s) :=
  (h.judgeSlots _ _ _ _ _).place _

/-! ### A mailbox record judged (R28 to R38) -/

section
variable {j : BoxWork}

theorem judgeField (h : DirectoriesCanonical j.state) {offset size held : Nat} {good : Nat → Bool} {name : FieldName}
    {put : Nat → State → State} (hput : ∀ v, DirectoriesCanonical (put v j.state)) :
    DirectoriesCanonical (judgeField offset size held good name put j).state := by
  unfold Machine.judgeField
  dsimp only
  split
  · exact h
  · split
    · exact hput _
    · exact h

theorem judgeClass (h : DirectoriesCanonical j.state) (m : Nat) :
    DirectoriesCanonical (judgeClass m j).state := h.judgeField fun _ => h.updateBox m _

theorem judgeCapacity (h : DirectoriesCanonical j.state) (m : Nat) :
    DirectoriesCanonical (judgeCapacity m j).state := h.judgeField fun _ => h.updateBox m _

theorem judgeSchedule (h : DirectoriesCanonical j.state) (m : Nat) :
    DirectoriesCanonical (judgeSchedule m j).state := h.judgeField fun _ => h.editBox m _

theorem judgeLocator (h : DirectoriesCanonical j.state) (m offset : Nat) (name : FieldName)
    (get : MailboxRec → Locator) (put : Locator → MailboxRec → MailboxRec) :
    DirectoriesCanonical (judgeLocator m offset name get put j).state := h.judgeField fun _ => h.editBox m _

theorem judgePrimary (h : DirectoriesCanonical j.state) (m : Nat) :
    DirectoriesCanonical (judgePrimary m j).state := h.judgeLocator m _ _ _ _

theorem judgeAfterHours (h : DirectoriesCanonical j.state) (m : Nat) :
    DirectoriesCanonical (judgeAfterHours m j).state := h.judgeLocator m _ _ _ _

theorem judgeOnBreak (h : DirectoriesCanonical j.state) (m : Nat) :
    DirectoriesCanonical (judgeOnBreak m j).state := h.judgeLocator m _ _ _ _

theorem judgeAbsence (h : DirectoriesCanonical j.state) (m : Nat) :
    DirectoriesCanonical (judgeAbsence m j).state := h.judgeLocator m _ _ _ _

theorem judgeAbsenceUntil (h : DirectoriesCanonical j.state) (m : Nat) :
    DirectoriesCanonical (judgeAbsenceUntil m j).state := h.judgeField fun _ => h.editBox m _

theorem judgeExtension (h : DirectoriesCanonical j.state) (m : Nat) :
    DirectoriesCanonical (judgeExtension m j).state := h.judgeField fun _ => h.editBox m _

theorem judgeStatus (h : DirectoriesCanonical j.state) (m : Nat) : DirectoriesCanonical (judgeStatus m j).state := by
  have hremoved := (h.updateBox m (fun b => { b with status := .unassigned })).removeMember m
  unfold Machine.judgeStatus
  dsimp only
  split
  · exact h
  · split
    · exact h
    · split
      · exact h
      · dsimp only
        exact hremoved
    · exact h.updateBox m _

theorem judgeLamp (h : DirectoriesCanonical j.state) (m : Nat) : DirectoriesCanonical (judgeLamp m j).state := by
  unfold Machine.judgeLamp
  dsimp only
  split
  · exact h
  · split
    · exact h
    · split
      · exact h
      · exact h.changeLamp m _

end

theorem judgeFields (h : DirectoriesCanonical s) (m : Nat) (lanes : List Lane) :
    DirectoriesCanonical (judgeFields m lanes s).state := by
  have hstatus := judgeStatus (j := ⟨s, withholdDerived lanes, []⟩) h m
  have hpolicies := ((hstatus.judgeClass m).judgeCapacity m).judgeLamp m
  have hgreetings := ((((hpolicies.judgeSchedule m).judgePrimary m).judgeAfterHours m).judgeOnBreak m).judgeAbsence m
  exact (hgreetings.judgeAbsenceUntil m).judgeExtension m

theorem reportBox (h : DirectoriesCanonical s) (m : Nat) (causes : List ReportBody) :
    DirectoriesCanonical (reportBox m causes s) := h.congr (by simp) (by simp) (by simp)

theorem judgeAcknowledge {j : BoxWork} (h : DirectoriesCanonical j.state) (m value : Nat) :
    DirectoriesCanonical (judgeAcknowledge m value j).state := by
  unfold Machine.judgeAcknowledge
  split
  · exact h
  · split
    · exact h.reportBox m _
    · exact h.leaveBroadcast _ m

theorem judgeBox (h : DirectoriesCanonical s) (m : Nat) (lanes : List Lane) :
    DirectoriesCanonical (judgeBox m lanes s).state :=
  judgeAcknowledge ((h.judgeFields m lanes).reportBox m _) m _

theorem judgeBoxes (h : DirectoriesCanonical s) (first : Nat) (is : List Nat) (line : List Lane) (adjusted : Bool)
    (stamps : List Nat) : DirectoriesCanonical (judgeBoxes first is ⟨s, line, adjusted, stamps⟩).state := by
  induction is generalizing s line adjusted with
  | nil => exact h
  | cons i is ih => exact ih (h.judgeBox (first + i) (recordLanes line i 64)) _ _

theorem mailboxDirWrite (h : DirectoriesCanonical s) (base : Nat) (w : HostWrite) :
    DirectoriesCanonical (mailboxDirWrite base w s) :=
  (h.judgeBoxes _ _ _ _ _).place _

/-! ### Timeout claims and the sweep (R14, R19, R63, R100, R102) -/

theorem timeoutTaken (h : DirectoriesCanonical s) (claim : TimeoutClaim) :
    DirectoriesCanonical (timeoutTaken claim s) := by
  have hreleased : DirectoriesCanonical (releaseContext claim.context s) := h
  unfold Machine.timeoutTaken
  dsimp only
  split
  · exact ((hreleased.changeSlot claim.slot _).place _).makeReport _ _ _ _ _
  · exact h

theorem takeClaim (h : DirectoriesCanonical s) : DirectoriesCanonical (takeClaim s) := by
  unfold Machine.takeClaim
  split
  · refine timeoutTaken ?_ _
    exact h
  · exact h

theorem setSweep (h : DirectoriesCanonical s) (w : Sweep) : DirectoriesCanonical { s with sweep := w } := h

theorem expireSlot (h : DirectoriesCanonical s) (n : Nat) : DirectoriesCanonical (expireSlot n s) :=
  (h.changeSlot n _).place _

theorem reportSweep (h : DirectoriesCanonical s) : DirectoriesCanonical (reportSweep s) :=
  h.congr (by simp) (by simp) (by simp)

theorem endSweep (h : DirectoriesCanonical s) : DirectoriesCanonical (endSweep s) :=
  ((h.endDayClaim s.sweep.day).setSweep _).reportSweep

theorem visitSlot (h : DirectoriesCanonical s) : DirectoriesCanonical (visitSlot s) :=
  (h.changedIf fun h => h.expireSlot s.sweep.cursor).setSweep _

theorem sweepVisit (h : DirectoriesCanonical s) : DirectoriesCanonical (sweepVisit s) :=
  h.visitSlot.changedIf fun hvisited => hvisited.endSweep

/-! ### RESET, LOADING and FAILED (R187, R190, R191) -/

theorem failLoad (cause : LoadFailure) (s : State) : DirectoriesCanonical (failLoad cause s) := of_empty rfl rfl rfl

theorem enterLoading (s : State) : DirectoriesCanonical (enterLoading s) := of_empty rfl rfl rfl

theorem assertReset (s : State) : DirectoriesCanonical (assertReset s) := of_empty rfl rfl rfl

theorem enterFailed (cause : LoadFailure) (s : State) : DirectoriesCanonical (enterFailed cause s) := by
  rw [enterFailed_changes]
  exact of_empty rfl rfl rfl

theorem releaseReset (h : DirectoriesCanonical s) (straps : BitVec 4) :
    DirectoriesCanonical (releaseReset straps s) := by
  unfold Machine.releaseReset
  split
  · exact enterLoading _
  · exact h

/-! ### A load (R20, R48 to R50, R188) -/

theorem loaderWrites (h : DirectoriesCanonical s) (group : List Entry) :
    DirectoriesCanonical (loaderWrites group s) := h

theorem countBox (h : DirectoriesCanonical s) : DirectoriesCanonical (countBox s) := h

theorem loadBox (h : DirectoriesCanonical s) (m : Nat) (bytes : List Byte) :
    DirectoriesCanonical (loadBox m bytes s) := by
  unfold Machine.loadBox
  dsimp only
  refine changedUnless ?_ fun hloaded => hloaded.countBox
  refine changedIf ?_ fun hrepaired => hrepaired.loaderWrites _
  refine changedUnless ?_ fun hheld => hheld.loaderWrites _
  split
  · exact (h.putBox m _).putHolder _ _
  · exact h.putBox m _

theorem loadSlot (h : DirectoriesCanonical s) (n : Nat) (bytes : List Byte) :
    DirectoriesCanonical (loadSlot n bytes s) := by
  unfold Machine.loadSlot
  dsimp only
  split
  · exact h.putSlot n _
  · split
    · exact h.putSlot n _
    · exact h.putSlot n _

theorem loadRecords {f : Nat → List Byte → State → State}
    (hf : ∀ n b u, DirectoriesCanonical u → DirectoriesCanonical (f n b u)) (first size : Nat) (data : List Byte)
    (is : List Nat) (h : DirectoriesCanonical s) : DirectoriesCanonical (loadRecords f first size data is s) := by
  induction is generalizing s with
  | nil => exact h
  | cons i is ih => exact ih (hf _ _ _ h)

theorem countTable (h : DirectoriesCanonical s) : DirectoriesCanonical (countTable s) := h

theorem updateLoader (h : DirectoriesCanonical s) (f : Loader → Loader) :
    DirectoriesCanonical (updateLoader f s) := h

theorem setRegions (h : DirectoriesCanonical s) (regions : List Region) :
    DirectoriesCanonical { s with transit := { s.transit with regions := regions } } := h

theorem loadHeader (h : DirectoriesCanonical s) (bytes : List Byte) : DirectoriesCanonical (loadHeader bytes s) := by
  have hheader : DirectoriesCanonical { s with control := { s.control with header := readHeader bytes } } := h
  exact hheader.changedUnless fun hfaulty => hfaulty.countTable

theorem loadConsumer (h : DirectoriesCanonical s) (index : Nat) : DirectoriesCanonical (loadConsumer index s) := by
  unfold Machine.loadConsumer
  split
  · exact h
  · exact h

theorem loadStepOne (h : DirectoriesCanonical s) (bytes : List Byte) :
    DirectoriesCanonical (loadStepOne bytes s) := by
  unfold Machine.loadStepOne
  dsimp only
  split
  · exact failLoad _ _
  · split
    · exact failLoad _ _
    · exact ((h.loadHeader bytes).setRegions _).loadConsumer _

theorem loadClass (h : DirectoriesCanonical s) (i : Nat) (bytes : List Byte) :
    DirectoriesCanonical (loadClass i bytes s) := by
  unfold Machine.loadClass
  split
  · exact h
  · exact h

theorem loadCalibration (h : DirectoriesCanonical s) (i : Nat) (bytes : List Byte) :
    DirectoriesCanonical (loadCalibration i bytes s) := by
  unfold Machine.loadCalibration
  split
  · exact h
  · exact h

theorem loadBreaks (h : DirectoriesCanonical s) (bytes : List Byte) : DirectoriesCanonical (loadBreaks bytes s) := by
  unfold Machine.loadBreaks
  split
  · exact h
  · exact h

theorem loadSchedule (h : DirectoriesCanonical s) (i : Nat) (bytes : List Byte) :
    DirectoriesCanonical (loadSchedule i bytes s) := by
  unfold Machine.loadSchedule
  split
  · exact h
  · exact h

theorem loadBroadcast (h : DirectoriesCanonical s) (i : Nat) (bytes : List Byte) :
    DirectoriesCanonical (loadBroadcast i bytes s) := by
  unfold Machine.loadBroadcast
  split
  · exact h
  · exact h

theorem loadShelf (h : DirectoriesCanonical s) (i : Nat) (bytes : List Byte) :
    DirectoriesCanonical (loadShelf i bytes s) := by
  unfold Machine.loadShelf
  split
  · exact h
  · exact h

theorem judgeLine (h : DirectoriesCanonical s) (i : Nat) (data : List Byte) :
    DirectoriesCanonical (judgeLine i data s) := by
  unfold Machine.judgeLine
  split
  · exact h.updateLoader _
  split
  · exact (h.updateLoader _).loadStepOne _
  split
  · exact h.loadRecords (fun n b _ hu => hu.loadClass n b) _ _ _ _
  split
  · exact h.loadRecords (fun n b _ hu => hu.loadCalibration n b) _ _ _ _
  split
  · exact h.loadBreaks _
  split
  · exact h.loadRecords (fun n b _ hu => hu.loadSchedule n b) _ _ _ _
  split
  · exact h.loadRecords (fun n b _ hu => hu.loadBroadcast n b) _ _ _ _
  split
  · exact h.loadRecords (fun n b _ hu => hu.loadShelf n b) _ _ _ _
  split
  · exact h.loadRecords (fun n b _ hu => hu.loadBox n b) _ _ _ _
  · exact h.loadRecords (fun n b _ hu => hu.loadSlot n b) _ _ _ _

theorem loaderAnswered (h : DirectoriesCanonical s) (i : Nat) (data : List Byte) :
    DirectoriesCanonical (loaderAnswered i data s) := (h.updateLoader _).judgeLine i _

theorem buildSlot (h : DirectoriesCanonical s) (n : Nat) : DirectoriesCanonical (buildSlot n s) :=
  h.changedUnless fun h => h.putBox _ _

theorem buildBox (h : DirectoriesCanonical s) (m : Nat) : DirectoriesCanonical (buildBox m s) := by
  have hput := h.putBox m (derived s (boxAt s m))
  unfold Machine.buildBox
  dsimp only
  split
  · exact hput.mapLamp _ _
  · exact hput

theorem buildShelf (h : DirectoriesCanonical s) (e : Nat) : DirectoriesCanonical (buildShelf e s) := h

theorem buildDerived (h : DirectoriesCanonical s) : DirectoriesCanonical (buildDerived s) := by
  have hslots := h.forEach (fun n _ hu => hu.buildSlot n) (s.slots.map (·.1))
  exact (hslots.forEach (fun m _ hu => hu.buildBox m) _).forEach (fun e _ hu => hu.buildShelf e) _

theorem enterRunning (h : DirectoriesCanonical s) : DirectoriesCanonical (enterRunning s) := by
  refine h.congr ?_ ?_ ?_
  all_goals
    unfold Machine.enterRunning
    dsimp only
    (repeat' split) <;> simp

theorem finishLoad (h : DirectoriesCanonical s) : DirectoriesCanonical (finishLoad s) :=
  h.changedIf fun h => h.buildDerived.enterRunning

/-! ### Control Area traffic (R53, R73, R127, R181, R182, R185) -/

theorem writeClass (h : DirectoriesCanonical s) (i : Nat) (c : ClassEntry) :
    DirectoriesCanonical (writeClass i c s) := by
  have hentered : DirectoriesCanonical
      { s with control := { s.control with classes := s.control.classes.setIfInBounds i c } } := h
  exact hentered.forEach (fun m _ hu => hu.updateBox m id) _

theorem takeCommand (h : DirectoriesCanonical s) (c : Command) : DirectoriesCanonical (takeCommand c s) := by
  have hcommand : DirectoriesCanonical { s with control := { s.control with command := some c } } := h
  unfold Machine.takeCommand
  dsimp only
  split
  · exact h
  · exact hcommand.congr (by simp) (by simp) (by simp)
  · exact hcommand.congr (by simp) (by simp) (by simp)
  · exact hcommand.commandPost c _
  · exact hcommand.commandWithdraw c _
  · exact hcommand.congr (by simp) (by simp) (by simp)
  · exact hcommand.commandDone c _ _

theorem writeShelf (h : DirectoriesCanonical s) (e : Nat) (host : Shelf) :
    DirectoriesCanonical (writeShelf e host s) := h.congr (by simp) (by simp) (by simp)

theorem takeRecord (h : DirectoriesCanonical s) (bytes : List Byte) (a : AreaRecord) :
    DirectoriesCanonical (takeRecord bytes a s) := by
  cases a with
  | command => exact h.takeCommand _
  | consumer => exact h
  | cls i => exact h.writeClass i _
  | calibration i => exact h
  | breakList => exact h
  | schedule i => exact h
  | broadcast i => exact h.putBroadcast i _
  | shelf i => exact h.writeShelf i _

theorem takeRecords (h : DirectoriesCanonical s) (line : List Lane) (records : List AreaRecord) :
    DirectoriesCanonical (takeRecords line records s) := by
  induction records generalizing s with
  | nil => exact h
  | cons a records ih => exact ih (h.takeRecord _ a)

theorem joinOrder (h : DirectoriesCanonical s) (response : Option Response) :
    DirectoriesCanonical (joinOrder response s) := h

theorem clearLatch (h : DirectoriesCanonical s) : DirectoriesCanonical (clearLatch s) := h

theorem acceptArea (h : DirectoriesCanonical s) (offset : Nat) (line : List Lane) (records : List AreaRecord)
    (w : HostWrite) : DirectoriesCanonical (acceptArea offset line records w s) := by
  have hforwarded := (h.place [hostWriteEntry w (linePart w (withholdStatus offset line)) false]).joinOrder none
  unfold Machine.acceptArea
  exact (takeRecords (hforwarded.changedIf clearLatch) line records).changedIf fun _ => enterLoading _

theorem writeArea (h : DirectoriesCanonical s) (offset : Nat) (w : HostWrite) :
    DirectoriesCanonical (writeArea offset w s) := by
  unfold Machine.writeArea
  dsimp only
  split
  · exact h.acceptArea _ _ _ w
  · exact h.congr (by simp) (by simp) (by simp)

theorem writeAreaFailed (h : DirectoriesCanonical s) (offset : Nat) (w : HostWrite) :
    DirectoriesCanonical (writeAreaFailed offset w s) :=
  ((h.place _).joinOrder none).changedIf fun _ => enterLoading _

/-! ### What a host transaction and an answer of memory do (R165, R170, R177 to R180) -/

theorem readRegion (h : DirectoriesCanonical s) (g : Region) (r : HostRead) :
    DirectoriesCanonical (readRegion g r s) := by
  unfold Machine.readRegion
  split
  all_goals exact h.congr (by simp) (by simp) (by simp)

theorem guardedWrite (h : DirectoriesCanonical s) (w : HostWrite) {go : State → State}
    (hgo : DirectoriesCanonical (go s)) : DirectoriesCanonical (guardedWrite w go s) := by
  unfold Machine.guardedWrite
  split
  · exact h.congr (by simp) (by simp) (by simp)
  · exact hgo

theorem writeRegion (h : DirectoriesCanonical s) (g : Region) (w : HostWrite) :
    DirectoriesCanonical (writeRegion g w s) := by
  have hrefused : DirectoriesCanonical (refuseTxn (.write w) s) := h
  unfold Machine.writeRegion
  split
  · exact (h.mailboxDirWrite _ w).joinOrder none
  · exact (h.slotDirWrite _ w).joinOrder none
  · exact h.guardedWrite w (h.congr (by simp) (by simp) (by simp))
  · exact h.guardedWrite w h
  · exact hrefused.makeReport _ _ _ _ _
  · exact hrefused.makeReport _ _ _ _ _

theorem takeTxn (h : DirectoriesCanonical s) (t : HostTxn) : DirectoriesCanonical (takeTxn t s) := by
  refine takeTxn_cases ?mis ?plain ?area ?failed ?region fun _ => h
  case mis => exact fun f _ => h.congr (by simp) (by simp) (by simp)
  case plain => exact fun _ _ => h
  case area =>
    intro o _ _ _
    cases t with
    | read r => exact h
    | write w => exact h.writeArea o w
  case failed =>
    intro o _ _
    cases t with
    | read r => exact h
    | write w => exact h.writeAreaFailed o w
  case region =>
    intro g _ _ _ _
    cases t with
    | read r => exact h.readRegion g r
    | write w => exact h.writeRegion g w

theorem fixResponse (h : DirectoriesCanonical s) (r : Response) : DirectoriesCanonical (fixResponse r s) := h

theorem reportHostFault (h : DirectoriesCanonical s) (e : Entry) (origin : Originator) :
    DirectoriesCanonical (reportHostFault e origin s) := h.makeReport _ _ _ _ _

theorem reportPartFault (h : DirectoriesCanonical s) (e : Entry) (origin : Originator) (n : Nat) :
    DirectoriesCanonical (reportPartFault e origin n s) := h.makeReport _ _ _ _ _

theorem deliver (h : DirectoriesCanonical s) (e : Entry) (m : MemAnswer) : DirectoriesCanonical (deliver e m s) := by
  unfold Machine.deliver
  split
  · exact (h.fixResponse _).changedIf fun hfixed => hfixed.reportHostFault e _
  · exact (h.fixResponse _).changedIf fun hfixed => hfixed.reportHostFault e _
  · exact h.changedIf fun h => h.reportPartFault e _ _
  · exact h.changedIf fun h => h.reportPartFault e _ _
  · split
    · exact h
    · split
      · exact failLoad _ s
      · exact h.loaderAnswered _ _
  · exact h.changedIf fun _ => failLoad _ s
  · exact h.congr (by simp) (by simp) (by simp)
  · exact h

theorem answerTaken (h : DirectoriesCanonical s) (m : MemAnswer) : DirectoriesCanonical (answerTaken m s) := by
  refine answerTaken_keeps DirectoriesCanonical s m h (fun e queue _ => ?_) fun cause u _ _ _ => enterFailed cause u
  refine deliver ?_ e m
  exact h

theorem placeLoaded (h : DirectoriesCanonical s) : DirectoriesCanonical (placeLoaded s) := by
  unfold Machine.placeLoaded
  split
  · exact (h.updateLoader _).place _
  · exact h

theorem clockEdge (h : DirectoriesCanonical s) : DirectoriesCanonical (clockEdge s) := by
  unfold Machine.clockEdge
  split
  · exact h
  · exact h

end DirectoriesCanonical

/-! ### Every step -/

/-- Each part of a step keeps the canonical form: those that write a directory by their lemma above, the others because
they leave all three. -/
theorem directoriesCanonical_stepParts : StepParts DirectoriesCanonical where
  pending _ _ h := h
  straps _ _ h := h
  edge _ h := h.clockEdge
  arrivals _ _ h := h
  turn _ _ h := h
  responses _ h := h
  links _ _ h := h.congr (by simp) (by simp) (by simp)
  txn _ t h _ := h.takeTxn t
  answer _ m h := h.answerTaken m
  lapse _ _ h _ := h.congr (by simp) (by simp) (by simp)
  claim _ h _ := h.takeClaim
  visit _ h _ := h.sweepVisit
  ending _ h _ := h.endSweep
  reporting _ h := h.reportSweep
  report _ h _ := h.congr (by simp) (by simp) (by simp)
  load _ h _ := h.placeLoaded
  calendar _ h := h.congr (by simp) (by simp) (by simp)
  latch _ _ h := h.congr (by simp) (by simp) (by simp)
  tick _ h := h.congr (by simp) (by simp) (by simp)
  probe _ _ h := h.congr (by simp) (by simp) (by simp)
  frame _ _ h := h.congr (by simp) (by simp) (by simp)
  firstWord _ _ h := h.congr (by simp) (by simp) (by simp)
  reply _ _ _ h := h.congr (by simp) (by simp) (by simp)
  timeout _ _ h := h.congr (by simp) (by simp) (by simp)
  resetOn s _ := .assertReset s
  resetOff _ straps h := h.releaseReset straps
  loaded _ h := h.finishLoad
  prun _ _ h := h.congr (by simp) (by simp) (by simp)

/-- Settles O7: every part of a step changes the directories through `putSlot`, `putBox` and `putHolder`, each a
`sparseSet`, or empties them. -/
theorem stepKeepsDirectoriesCanonical : Obligations.StepKeepsDirectoriesCanonical :=
  fun _ _ h hstep => step_keeps directoriesCanonical_stepParts h hstep

end Sys2Proof.Machine
